-- ==== Sys2Proof/Word.lean ====
section
/-! DEFINITION. The two word types of the machine (00_scope.md R5, R6): an 8-bit byte and a 16-bit word or
address. Bit 0 is the least significant bit. Their arithmetic is that of BitVec: modulo 256 and modulo 65536
(R7). Everything built from them (bit fields, halves, sign extension) stands in Decode.lean and Machine/Ops.lean. -/

namespace Sys2Proof

/-- `u8`: an 8-bit register, a byte of memory, an opcode byte (R5 `REG8_W`, `BYTE_W`). -/
abbrev Byte := BitVec 8

/-- `u16`: a pair, `sp`, `pc`, an address (R5 `REG16_W`, `ADDR_W`). -/
abbrev Word := BitVec 16

end Sys2Proof
end

