-- ==== Sys2Proof/Config.lean ====
section
/-! DEFINITION. What the spec leaves to the implementation: its two OPEN parameters (92_eei_decisions.md section 7,
00_scope.md R5) and the fixed parameters the model names. -/

namespace Sys2Proof.Config

/-- `AF_POWERON` (R5, R35, D1): OPEN, 0x8000 or 0x0080; the spec's default is 0x8000.
DESIGN CHOICE, unsafe (log 1): a claim about power-on quantifies over the value (`State.powerOn af`). -/
def afPowerOn : Word := 0x8000

/-- A byte of memory that nothing has written since memory last became unspecified: a FREE VALUE.
`memUnspecified 0 a` is `MEM_POWERON(a)` (R35, D2); `memUnspecified (k+1) a` is the byte at `a` after a
further failed `Load` (20_memory.md R61, D21, U1). No body: no proof can see a value of it (log 2). -/
opaque memUnspecified : Nat → Word → Byte

/-- `MEM_SIZE` and `MAX_LOAD` (R5): the address space and the largest program image, 65536 bytes. -/
def memSize : Nat := 65536

/-- `PREFIX` (R5, 30_encoding.md R82): the byte that selects the extension table. -/
def prefixByte : Byte := 0xCB

end Sys2Proof.Config
end

