-- ==== Sys2Proof/Syntax.lean ====
section
/-! DEFINITION. The syntax of the machine's instructions: the operand tables (10_state.md R24 to R26), one
constructor of `Instr` per row of spec/opcode_table.json, and the families of constructors that differ in a table
operand only (30_encoding.md R87 to R91). -/

namespace Sys2Proof

/-- The 8-bit operand table `r8` (R24): B, C, D, E, H, L, (HL), A; `indHl` is the byte of memory at `hl`. -/
inductive R8 where
  | b | c | d | e | h | l | indHl | a
  deriving DecidableEq, Repr

/-- The pair table `rp` (R25): BC, DE, HL, SP. -/
inductive Pair where
  | bc | de | hl | sp
  deriving DecidableEq, Repr

/-- The pair table `rp2` of PUSH and POP (R25): BC, DE, HL, AF. -/
inductive StackPair where
  | bc | de | hl | af
  deriving DecidableEq, Repr

/-- The condition table (R26): NZ, Z, NC, C. -/
inductive Cond where
  | nz | z | nc | c
  deriving DecidableEq, Repr

/-- The eight accumulator operations of blocks 2 and 3 (R87). -/
inductive AluOp where
  | add | adc | sub | sbc | and | xor | or | cp
  deriving DecidableEq, Repr

/-- The instructions: one constructor per row of spec/opcode_table.json, those with operands
first (Lean's runtime numbers only so many of them), each group in the table's order. Beside each stand its opcode (for the extension table: `opcode2` after the prefix, its low bits free), its assembler form (R95) and the
rule of its meaning. Immediates are carried as fetched (R86): `n` a `d8` or `a8`, `e` an `e8`, `d` a `d16`, `a` an
`a16`. -/
inductive Instr where
  | ldBcD16 (d : Word) -- 01 LD BC,d16, R154
  | ldBD8 (n : Byte) -- 06 LD B,d8, R122
  | ldIndA16Sp (a : Word) -- 08 LD (a16),SP, R157
  | ldCD8 (n : Byte) -- 0E LD C,d8, R122
  | ldDeD16 (d : Word) -- 11 LD DE,d16, R154
  | ldDD8 (n : Byte) -- 16 LD D,d8, R122
  | jrE8 (e : Byte) -- 18 JR e8, R211
  | ldED8 (n : Byte) -- 1E LD E,d8, R122
  | jrNzE8 (e : Byte) -- 20 JR NZ,e8, R212
  | ldHlD16 (d : Word) -- 21 LD HL,d16, R154
  | ldHD8 (n : Byte) -- 26 LD H,d8, R122
  | jrZE8 (e : Byte) -- 28 JR Z,e8, R212
  | ldLD8 (n : Byte) -- 2E LD L,d8, R122
  | jrNcE8 (e : Byte) -- 30 JR NC,e8, R212
  | ldSpD16 (d : Word) -- 31 LD SP,d16, R154
  | ldIndHlD8 (n : Byte) -- 36 LD (HL),d8, R125
  | jrCE8 (e : Byte) -- 38 JR C,e8, R212
  | ldAD8 (n : Byte) -- 3E LD A,d8, R122
  | jpNzA16 (a : Word) -- C2 JP NZ,a16, R214
  | jpA16 (a : Word) -- C3 JP a16, R213
  | callNzA16 (a : Word) -- C4 CALL NZ,a16, R217
  | addAD8 (n : Byte) -- C6 ADD A,d8, R241
  | jpZA16 (a : Word) -- CA JP Z,a16, R214
  | prefixCb (op2 : Byte) -- CB PREFIX CB, R276
  | callZA16 (a : Word) -- CC CALL Z,a16, R217
  | callA16 (a : Word) -- CD CALL a16, R216
  | adcAD8 (n : Byte) -- CE ADC A,d8, R242
  | jpNcA16 (a : Word) -- D2 JP NC,a16, R214
  | callNcA16 (a : Word) -- D4 CALL NC,a16, R217
  | subD8 (n : Byte) -- D6 SUB d8, R243
  | jpCA16 (a : Word) -- DA JP C,a16, R214
  | callCA16 (a : Word) -- DC CALL C,a16, R217
  | sbcAD8 (n : Byte) -- DE SBC A,d8, R244
  | ldhIndA8A (n : Byte) -- E0 LDH (a8),A, R134
  | andD8 (n : Byte) -- E6 AND d8, R245
  | addSpE8 (e : Byte) -- E8 ADD SP,e8, R175
  | ldIndA16A (a : Word) -- EA LD (a16),A, R138
  | xorD8 (n : Byte) -- EE XOR d8, R246
  | ldhAIndA8 (n : Byte) -- F0 LDH A,(a8), R135
  | orD8 (n : Byte) -- F6 OR d8, R247
  | ldHlSpE8 (e : Byte) -- F8 LD HL,SP+e8, R155
  | ldAIndA16 (a : Word) -- FA LD A,(a16), R139
  | cpD8 (n : Byte) -- FE CP d8, R248
  | rlcR8 (r : R8) -- CB 00 RLC r8, R291
  | rrcR8 (r : R8) -- CB 08 RRC r8, R292
  | rlR8 (r : R8) -- CB 10 RL r8, R293
  | rrR8 (r : R8) -- CB 18 RR r8, R294
  | slaR8 (r : R8) -- CB 20 SLA r8, R295
  | sraR8 (r : R8) -- CB 28 SRA r8, R296
  | swapR8 (r : R8) -- CB 30 SWAP r8, R297
  | srlR8 (r : R8) -- CB 38 SRL r8, R298
  | bitBR8 (b : Fin 8) (r : R8) -- CB 40 BIT b,r8, R299
  | resBR8 (b : Fin 8) (r : R8) -- CB 80 RES b,r8, R300
  | setBR8 (b : Fin 8) (r : R8) -- CB C0 SET b,r8, R301
  | nop -- 00 NOP, R270
  | ldIndBcA -- 02 LD (BC),A, R128
  | incBc -- 03 INC BC, R172
  | incB -- 04 INC B, R170
  | decB -- 05 DEC B, R171
  | rlca -- 07 RLCA, R190
  | addHlBc -- 09 ADD HL,BC, R174
  | ldAIndBc -- 0A LD A,(BC), R126
  | decBc -- 0B DEC BC, R173
  | incC -- 0C INC C, R170
  | decC -- 0D DEC C, R171
  | rrca -- 0F RRCA, R191
  | stop -- 10 STOP, R273
  | ldIndDeA -- 12 LD (DE),A, R129
  | incDe -- 13 INC DE, R172
  | incD -- 14 INC D, R170
  | decD -- 15 DEC D, R171
  | rla -- 17 RLA, R192
  | addHlDe -- 19 ADD HL,DE, R174
  | ldAIndDe -- 1A LD A,(DE), R127
  | decDe -- 1B DEC DE, R173
  | incE -- 1C INC E, R170
  | decE -- 1D DEC E, R171
  | rra -- 1F RRA, R193
  | ldIndHlIncA -- 22 LD (HL+),A, R130
  | incHl -- 23 INC HL, R172
  | incH -- 24 INC H, R170
  | decH -- 25 DEC H, R171
  | daa -- 27 DAA, R194
  | addHlHl -- 29 ADD HL,HL, R174
  | ldAIndHlInc -- 2A LD A,(HL+), R132
  | decHl -- 2B DEC HL, R173
  | incL -- 2C INC L, R170
  | decL -- 2D DEC L, R171
  | cpl -- 2F CPL, R195
  | ldIndHlDecA -- 32 LD (HL-),A, R131
  | incSp -- 33 INC SP, R172
  | incIndHl -- 34 INC (HL), R170
  | decIndHl -- 35 DEC (HL), R171
  | scf -- 37 SCF, R196
  | addHlSp -- 39 ADD HL,SP, R174
  | ldAIndHlDec -- 3A LD A,(HL-), R133
  | decSp -- 3B DEC SP, R173
  | incA -- 3C INC A, R170
  | decA -- 3D DEC A, R171
  | ccf -- 3F CCF, R197
  | ldBB -- 40 LD B,B, R121
  | ldBC -- 41 LD B,C, R121
  | ldBD -- 42 LD B,D, R121
  | ldBE -- 43 LD B,E, R121
  | ldBH -- 44 LD B,H, R121
  | ldBL -- 45 LD B,L, R121
  | ldBIndHl -- 46 LD B,(HL), R123
  | ldBA -- 47 LD B,A, R121
  | ldCB -- 48 LD C,B, R121
  | ldCC -- 49 LD C,C, R121
  | ldCD -- 4A LD C,D, R121
  | ldCE -- 4B LD C,E, R121
  | ldCH -- 4C LD C,H, R121
  | ldCL -- 4D LD C,L, R121
  | ldCIndHl -- 4E LD C,(HL), R123
  | ldCA -- 4F LD C,A, R121
  | ldDB -- 50 LD D,B, R121
  | ldDC -- 51 LD D,C, R121
  | ldDD -- 52 LD D,D, R121
  | ldDE -- 53 LD D,E, R121
  | ldDH -- 54 LD D,H, R121
  | ldDL -- 55 LD D,L, R121
  | ldDIndHl -- 56 LD D,(HL), R123
  | ldDA -- 57 LD D,A, R121
  | ldEB -- 58 LD E,B, R121
  | ldEC -- 59 LD E,C, R121
  | ldED -- 5A LD E,D, R121
  | ldEE -- 5B LD E,E, R121
  | ldEH -- 5C LD E,H, R121
  | ldEL -- 5D LD E,L, R121
  | ldEIndHl -- 5E LD E,(HL), R123
  | ldEA -- 5F LD E,A, R121
  | ldHB -- 60 LD H,B, R121
  | ldHC -- 61 LD H,C, R121
  | ldHD -- 62 LD H,D, R121
  | ldHE -- 63 LD H,E, R121
  | ldHH -- 64 LD H,H, R121
  | ldHL -- 65 LD H,L, R121
  | ldHIndHl -- 66 LD H,(HL), R123
  | ldHA -- 67 LD H,A, R121
  | ldLB -- 68 LD L,B, R121
  | ldLC -- 69 LD L,C, R121
  | ldLD -- 6A LD L,D, R121
  | ldLE -- 6B LD L,E, R121
  | ldLH -- 6C LD L,H, R121
  | ldLL -- 6D LD L,L, R121
  | ldLIndHl -- 6E LD L,(HL), R123
  | ldLA -- 6F LD L,A, R121
  | ldIndHlB -- 70 LD (HL),B, R124
  | ldIndHlC -- 71 LD (HL),C, R124
  | ldIndHlD -- 72 LD (HL),D, R124
  | ldIndHlE -- 73 LD (HL),E, R124
  | ldIndHlH -- 74 LD (HL),H, R124
  | ldIndHlL -- 75 LD (HL),L, R124
  | halt -- 76 HALT, R272
  | ldIndHlA -- 77 LD (HL),A, R124
  | ldAB -- 78 LD A,B, R121
  | ldAC -- 79 LD A,C, R121
  | ldAD -- 7A LD A,D, R121
  | ldAE -- 7B LD A,E, R121
  | ldAH -- 7C LD A,H, R121
  | ldAL -- 7D LD A,L, R121
  | ldAIndHl -- 7E LD A,(HL), R123
  | ldAA -- 7F LD A,A, R121
  | addAB -- 80 ADD A,B, R241
  | addAC -- 81 ADD A,C, R241
  | addAD -- 82 ADD A,D, R241
  | addAE -- 83 ADD A,E, R241
  | addAH -- 84 ADD A,H, R241
  | addAL -- 85 ADD A,L, R241
  | addAIndHl -- 86 ADD A,(HL), R241
  | addAA -- 87 ADD A,A, R241
  | adcAB -- 88 ADC A,B, R242
  | adcAC -- 89 ADC A,C, R242
  | adcAD -- 8A ADC A,D, R242
  | adcAE -- 8B ADC A,E, R242
  | adcAH -- 8C ADC A,H, R242
  | adcAL -- 8D ADC A,L, R242
  | adcAIndHl -- 8E ADC A,(HL), R242
  | adcAA -- 8F ADC A,A, R242
  | subB -- 90 SUB B, R243
  | subC -- 91 SUB C, R243
  | subD -- 92 SUB D, R243
  | subE -- 93 SUB E, R243
  | subH -- 94 SUB H, R243
  | subL -- 95 SUB L, R243
  | subIndHl -- 96 SUB (HL), R243
  | subA -- 97 SUB A, R243
  | sbcAB -- 98 SBC A,B, R244
  | sbcAC -- 99 SBC A,C, R244
  | sbcAD -- 9A SBC A,D, R244
  | sbcAE -- 9B SBC A,E, R244
  | sbcAH -- 9C SBC A,H, R244
  | sbcAL -- 9D SBC A,L, R244
  | sbcAIndHl -- 9E SBC A,(HL), R244
  | sbcAA -- 9F SBC A,A, R244
  | andB -- A0 AND B, R245
  | andC -- A1 AND C, R245
  | andD -- A2 AND D, R245
  | andE -- A3 AND E, R245
  | andH -- A4 AND H, R245
  | andL -- A5 AND L, R245
  | andIndHl -- A6 AND (HL), R245
  | andA -- A7 AND A, R245
  | xorB -- A8 XOR B, R246
  | xorC -- A9 XOR C, R246
  | xorD -- AA XOR D, R246
  | xorE -- AB XOR E, R246
  | xorH -- AC XOR H, R246
  | xorL -- AD XOR L, R246
  | xorIndHl -- AE XOR (HL), R246
  | xorA -- AF XOR A, R246
  | orB -- B0 OR B, R247
  | orC -- B1 OR C, R247
  | orD -- B2 OR D, R247
  | orE -- B3 OR E, R247
  | orH -- B4 OR H, R247
  | orL -- B5 OR L, R247
  | orIndHl -- B6 OR (HL), R247
  | orA -- B7 OR A, R247
  | cpB -- B8 CP B, R248
  | cpC -- B9 CP C, R248
  | cpD -- BA CP D, R248
  | cpE -- BB CP E, R248
  | cpH -- BC CP H, R248
  | cpL -- BD CP L, R248
  | cpIndHl -- BE CP (HL), R248
  | cpA -- BF CP A, R248
  | retNz -- C0 RET NZ, R220
  | popBc -- C1 POP BC, R153
  | pushBc -- C5 PUSH BC, R152
  | rst00 -- C7 RST 0x00, R221
  | retZ -- C8 RET Z, R220
  | ret -- C9 RET, R218
  | rst08 -- CF RST 0x08, R221
  | retNc -- D0 RET NC, R220
  | popDe -- D1 POP DE, R153
  | invalidD3 -- D3 INVALID, R277
  | pushDe -- D5 PUSH DE, R152
  | rst10 -- D7 RST 0x10, R221
  | retC -- D8 RET C, R220
  | reti -- D9 RETI, R219
  | invalidDB -- DB INVALID, R277
  | invalidDD -- DD INVALID, R277
  | rst18 -- DF RST 0x18, R221
  | popHl -- E1 POP HL, R153
  | ldIndCA -- E2 LD (C),A, R136
  | invalidE3 -- E3 INVALID, R277
  | invalidE4 -- E4 INVALID, R277
  | pushHl -- E5 PUSH HL, R152
  | rst20 -- E7 RST 0x20, R221
  | jpHl -- E9 JP HL, R215
  | invalidEB -- EB INVALID, R277
  | invalidEC -- EC INVALID, R277
  | invalidED -- ED INVALID, R277
  | rst28 -- EF RST 0x28, R221
  | popAf -- F1 POP AF, R153
  | ldAIndC -- F2 LD A,(C), R137
  | di -- F3 DI, R274
  | invalidF4 -- F4 INVALID, R277
  | pushAf -- F5 PUSH AF, R152
  | rst30 -- F7 RST 0x30, R221
  | ldSpHl -- F9 LD SP,HL, R156
  | ei -- FB EI, R275
  | invalidFC -- FC INVALID, R277
  | invalidFD -- FD INVALID, R277
  | rst38 -- FF RST 0x38, R221
  deriving DecidableEq, Repr

/-! ## Families: the constructors that differ in a table operand only -/

/-- Block 1 (R89): LD r8[column],r8[row], and HALT in the slot of LD (HL),(HL). -/
def ldOp (dst src : R8) : Instr :=
  match dst, src with
  | .b, .b => .ldBB
  | .b, .c => .ldBC
  | .b, .d => .ldBD
  | .b, .e => .ldBE
  | .b, .h => .ldBH
  | .b, .l => .ldBL
  | .b, .indHl => .ldBIndHl
  | .b, .a => .ldBA
  | .c, .b => .ldCB
  | .c, .c => .ldCC
  | .c, .d => .ldCD
  | .c, .e => .ldCE
  | .c, .h => .ldCH
  | .c, .l => .ldCL
  | .c, .indHl => .ldCIndHl
  | .c, .a => .ldCA
  | .d, .b => .ldDB
  | .d, .c => .ldDC
  | .d, .d => .ldDD
  | .d, .e => .ldDE
  | .d, .h => .ldDH
  | .d, .l => .ldDL
  | .d, .indHl => .ldDIndHl
  | .d, .a => .ldDA
  | .e, .b => .ldEB
  | .e, .c => .ldEC
  | .e, .d => .ldED
  | .e, .e => .ldEE
  | .e, .h => .ldEH
  | .e, .l => .ldEL
  | .e, .indHl => .ldEIndHl
  | .e, .a => .ldEA
  | .h, .b => .ldHB
  | .h, .c => .ldHC
  | .h, .d => .ldHD
  | .h, .e => .ldHE
  | .h, .h => .ldHH
  | .h, .l => .ldHL
  | .h, .indHl => .ldHIndHl
  | .h, .a => .ldHA
  | .l, .b => .ldLB
  | .l, .c => .ldLC
  | .l, .d => .ldLD
  | .l, .e => .ldLE
  | .l, .h => .ldLH
  | .l, .l => .ldLL
  | .l, .indHl => .ldLIndHl
  | .l, .a => .ldLA
  | .indHl, .b => .ldIndHlB
  | .indHl, .c => .ldIndHlC
  | .indHl, .d => .ldIndHlD
  | .indHl, .e => .ldIndHlE
  | .indHl, .h => .ldIndHlH
  | .indHl, .l => .ldIndHlL
  | .indHl, .indHl => .halt
  | .indHl, .a => .ldIndHlA
  | .a, .b => .ldAB
  | .a, .c => .ldAC
  | .a, .d => .ldAD
  | .a, .e => .ldAE
  | .a, .h => .ldAH
  | .a, .l => .ldAL
  | .a, .indHl => .ldAIndHl
  | .a, .a => .ldAA

/-- Block 0 row 6 (R88): LD r8[column],d8. -/
def ldImmOp (dst : R8) (n : Byte) : Instr :=
  match dst with
  | .b => .ldBD8 n
  | .c => .ldCD8 n
  | .d => .ldDD8 n
  | .e => .ldED8 n
  | .h => .ldHD8 n
  | .l => .ldLD8 n
  | .indHl => .ldIndHlD8 n
  | .a => .ldAD8 n

/-- Block 0 row 4 (R88): INC r8[column]. -/
def incOp (r : R8) : Instr :=
  match r with
  | .b => .incB
  | .c => .incC
  | .d => .incD
  | .e => .incE
  | .h => .incH
  | .l => .incL
  | .indHl => .incIndHl
  | .a => .incA

/-- Block 0 row 5 (R88): DEC r8[column]. -/
def decOp (r : R8) : Instr :=
  match r with
  | .b => .decB
  | .c => .decC
  | .d => .decD
  | .e => .decE
  | .h => .decH
  | .l => .decL
  | .indHl => .decIndHl
  | .a => .decA

/-- Block 0 row 1 sub 0 (R88): LD rp[pair],d16. -/
def ldPairOp (p : Pair) (d : Word) : Instr :=
  match p with
  | .bc => .ldBcD16 d
  | .de => .ldDeD16 d
  | .hl => .ldHlD16 d
  | .sp => .ldSpD16 d

/-- Block 0 row 1 sub 1 (R88): ADD HL,rp[pair]. -/
def addHlOp (p : Pair) : Instr :=
  match p with
  | .bc => .addHlBc
  | .de => .addHlDe
  | .hl => .addHlHl
  | .sp => .addHlSp

/-- Block 0 row 3 sub 0 (R88): INC rp[pair]. -/
def incPairOp (p : Pair) : Instr :=
  match p with
  | .bc => .incBc
  | .de => .incDe
  | .hl => .incHl
  | .sp => .incSp

/-- Block 0 row 3 sub 1 (R88): DEC rp[pair]. -/
def decPairOp (p : Pair) : Instr :=
  match p with
  | .bc => .decBc
  | .de => .decDe
  | .hl => .decHl
  | .sp => .decSp

/-- Block 3 row 5 sub 0 (R91): PUSH rp2[pair]. -/
def pushOp (p : StackPair) : Instr :=
  match p with
  | .bc => .pushBc
  | .de => .pushDe
  | .hl => .pushHl
  | .af => .pushAf

/-- Block 3 row 1 sub 0 (R91): POP rp2[pair]. -/
def popOp (p : StackPair) : Instr :=
  match p with
  | .bc => .popBc
  | .de => .popDe
  | .hl => .popHl
  | .af => .popAf

/-- Block 2 (R90): ALU operation `column` on `A` and r8[row]. -/
def aluOp (op : AluOp) (r : R8) : Instr :=
  match op, r with
  | .add, .b => .addAB
  | .add, .c => .addAC
  | .add, .d => .addAD
  | .add, .e => .addAE
  | .add, .h => .addAH
  | .add, .l => .addAL
  | .add, .indHl => .addAIndHl
  | .add, .a => .addAA
  | .adc, .b => .adcAB
  | .adc, .c => .adcAC
  | .adc, .d => .adcAD
  | .adc, .e => .adcAE
  | .adc, .h => .adcAH
  | .adc, .l => .adcAL
  | .adc, .indHl => .adcAIndHl
  | .adc, .a => .adcAA
  | .sub, .b => .subB
  | .sub, .c => .subC
  | .sub, .d => .subD
  | .sub, .e => .subE
  | .sub, .h => .subH
  | .sub, .l => .subL
  | .sub, .indHl => .subIndHl
  | .sub, .a => .subA
  | .sbc, .b => .sbcAB
  | .sbc, .c => .sbcAC
  | .sbc, .d => .sbcAD
  | .sbc, .e => .sbcAE
  | .sbc, .h => .sbcAH
  | .sbc, .l => .sbcAL
  | .sbc, .indHl => .sbcAIndHl
  | .sbc, .a => .sbcAA
  | .and, .b => .andB
  | .and, .c => .andC
  | .and, .d => .andD
  | .and, .e => .andE
  | .and, .h => .andH
  | .and, .l => .andL
  | .and, .indHl => .andIndHl
  | .and, .a => .andA
  | .xor, .b => .xorB
  | .xor, .c => .xorC
  | .xor, .d => .xorD
  | .xor, .e => .xorE
  | .xor, .h => .xorH
  | .xor, .l => .xorL
  | .xor, .indHl => .xorIndHl
  | .xor, .a => .xorA
  | .or, .b => .orB
  | .or, .c => .orC
  | .or, .d => .orD
  | .or, .e => .orE
  | .or, .h => .orH
  | .or, .l => .orL
  | .or, .indHl => .orIndHl
  | .or, .a => .orA
  | .cp, .b => .cpB
  | .cp, .c => .cpC
  | .cp, .d => .cpD
  | .cp, .e => .cpE
  | .cp, .h => .cpH
  | .cp, .l => .cpL
  | .cp, .indHl => .cpIndHl
  | .cp, .a => .cpA

/-- Block 3 row 6 (R91): ALU operation `column` on `A` and d8. -/
def aluImmOp (op : AluOp) (n : Byte) : Instr :=
  match op with
  | .add => .addAD8 n
  | .adc => .adcAD8 n
  | .sub => .subD8 n
  | .sbc => .sbcAD8 n
  | .and => .andD8 n
  | .xor => .xorD8 n
  | .or => .orD8 n
  | .cp => .cpD8 n

/-- Block 0 row 0 columns 4 to 7 (R88): JR cc,e8. -/
def jrOp (cc : Cond) (e : Byte) : Instr :=
  match cc with
  | .nz => .jrNzE8 e
  | .z => .jrZE8 e
  | .nc => .jrNcE8 e
  | .c => .jrCE8 e

/-- Block 3 row 2 columns 0 to 3 (R91): JP cc,a16. -/
def jpOp (cc : Cond) (a : Word) : Instr :=
  match cc with
  | .nz => .jpNzA16 a
  | .z => .jpZA16 a
  | .nc => .jpNcA16 a
  | .c => .jpCA16 a

/-- Block 3 row 4 columns 0 to 3 (R91): CALL cc,a16. -/
def callOp (cc : Cond) (a : Word) : Instr :=
  match cc with
  | .nz => .callNzA16 a
  | .z => .callZA16 a
  | .nc => .callNcA16 a
  | .c => .callCA16 a

/-- Block 3 row 0 columns 0 to 3 (R91): RET cc. -/
def retOp (cc : Cond) : Instr :=
  match cc with
  | .nz => .retNz
  | .z => .retZ
  | .nc => .retNc
  | .c => .retC

/-- Block 3 row 7 (R91): RST 8 * column. -/
def rstOp (column : Fin 8) : Instr :=
  match column with
  | 0 => .rst00
  | 1 => .rst08
  | 2 => .rst10
  | 3 => .rst18
  | 4 => .rst20
  | 5 => .rst28
  | 6 => .rst30
  | 7 => .rst38

end Sys2Proof
end

