-- ==== Sys2Proof/WellFormed.lean ====
section
/-! DEFINITION. Which terms of `Instr` are instructions. Every operand field is a closed type of exactly the
encoding's width (10_state.md R31: "every index field is fully decoded"), so one check remains:
the prefix byte is no instruction by itself. -/

namespace Sys2Proof

/-- 30_encoding.md R80: "the byte 0xCB alone is not an instruction; it is the first byte of a `CB_OP`
instruction". The term `prefixCb op2` names the two bytes of the extension instruction that `op2` selects
(R82), and the decoder gives that instruction (log 7). -/
def Instr.wf (i : Instr) : Bool :=
  match i with
  | .prefixCb _ => false
  | _ => true

end Sys2Proof
end

