-- ==== Sys2Proof/Decode.lean ====
section
/-! DEFINITION. From bytes to instructions and back (30_encoding.md). First the bit-field, byte-order and extension
helpers; then the decoder, total on any bytes; then the encoder, written from the encoding line of each
instruction's rule and the map of R88 to R92. -/

namespace Sys2Proof

/-! ## Halves of a word, byte order, extensions (00_scope.md R6, R7; 10_state.md R21) -/

/-- Bits 15:8 of a word. -/
def hi8 (w : Word) : Byte := w.extractLsb' 8 8

/-- Bits 7:0 of a word. -/
def lo8 (w : Word) : Byte := w.extractLsb' 0 8

/-- `hi:lo`, the value `hi * 256 + lo` (R6). -/
def join (hi lo : Byte) : Word := hi ++ lo

/-- `zext16` (R7). -/
def zext16 (b : Byte) : Word := b.setWidth 16

/-- `sext16` (R7): the two's complement value of the byte, as a word. -/
def sext16 (b : Byte) : Word := b.signExtend 16

/-- `v` with bit `i` set to `b` and every other bit as it was. -/
def setBit8 (v : Byte) (i : Nat) (b : Bool) : Byte :=
  if b then v ||| BitVec.twoPow 8 i else v &&& ~~~BitVec.twoPow 8 i

/-- Byte `k` of a number, byte 0 the least significant. -/
def byteOfNat (w k : Nat) : Byte := BitVec.ofNat 8 (w / 256 ^ k)

/-! ## The fields of the effective opcode byte (30_encoding.md R81): `op = 64 * block + 8 * column + row` -/

def block (op : Byte) : Fin 4 := ⟨op.toNat / 64, by omega⟩
def column (op : Byte) : Fin 8 := ⟨op.toNat / 8 % 8, by omega⟩
def row (op : Byte) : Fin 8 := ⟨op.toNat % 8, by omega⟩
/-- `op[5:4]`, the upper two bits of `column`. -/
def pairField (op : Byte) : Fin 4 := ⟨op.toNat / 16 % 4, by omega⟩
/-- `op[3]`, the low bit of `column`. -/
def subField (op : Byte) : Fin 2 := ⟨op.toNat / 8 % 2, by omega⟩

/-- The 8-bit operand table (10_state.md R24) by index. -/
def R8.ofIndex : Fin 8 → R8
  | 0 => .b
  | 1 => .c
  | 2 => .d
  | 3 => .e
  | 4 => .h
  | 5 => .l
  | 6 => .indHl
  | 7 => .a

/-- The index of an 8-bit operand (R24). -/
def R8.index : R8 → Nat
  | .b => 0
  | .c => 1
  | .d => 2
  | .e => 3
  | .h => 4
  | .l => 5
  | .indHl => 6
  | .a => 7

/-- The index of a pair in `rp` (R25). -/
def Pair.index : Pair → Nat
  | .bc => 0
  | .de => 1
  | .hl => 2
  | .sp => 3

/-- The index of a pair in `rp2` (R25). -/
def StackPair.index : StackPair → Nat
  | .bc => 0
  | .de => 1
  | .hl => 2
  | .af => 3

/-- The index of a condition (R26). -/
def Cond.index : Cond → Nat
  | .nz => 0
  | .z => 1
  | .nc => 2
  | .c => 3

/-- The column of an ALU operation (R87). -/
def AluOp.index : AluOp → Nat
  | .add => 0
  | .adc => 1
  | .sub => 2
  | .sbc => 3
  | .and => 4
  | .xor => 5
  | .or => 6
  | .cp => 7

/-! ## Length (30_encoding.md R85): "The first byte decides it alone" -/

/-- The table of R85, line by line; the eleven invalid slots and every other value have length 1. -/
def instrLength (b : Byte) : Nat :=
  if b = Config.prefixByte then 2
  else if block b = 0 ∧ row b = 6 then 2
  else if block b = 0 ∧ row b = 0 ∧ 3 ≤ column b then 2
  else if block b = 3 ∧ row b = 6 then 2
  else if b = 0xE0 ∨ b = 0xF0 ∨ b = 0xE8 ∨ b = 0xF8 then 2
  else if block b = 0 ∧ row b = 1 ∧ subField b = 0 then 3
  else if b = 0x08 then 3
  else if (block b = 3 ∧ row b = 2 ∧ column b ≤ 3) ∨ b = 0xEA ∨ b = 0xFA then 3
  else if b = 0xC3 then 3
  else if (block b = 3 ∧ row b = 4 ∧ column b ≤ 3) ∨ b = 0xCD then 3
  else 1

/-! ## The base table (30_encoding.md R91, "The whole base table as a grid") -/

/-- What a cell of the grid makes of the bytes after the opcode (formats of R80). -/
inductive Entry where
  /-- Format OP: no immediate. -/
  | op (i : Instr)
  /-- Formats OP_D8, OP_E8, OP_A8: one immediate byte. -/
  | imm8 (f : Byte → Instr)
  /-- Formats OP_D16, OP_A16: two immediate bytes, low byte first (R84, D7). -/
  | imm16 (f : Word → Instr)
  /-- The prefix 0xCB: the next byte is `opcode2` (R82). -/
  | pfx

/-- Opcodes 0x00 to 0x0F. -/
def gridRow0 : List Entry :=
  [.op .nop, .imm16 .ldBcD16, .op .ldIndBcA, .op .incBc, .op .incB, .op .decB, .imm8 .ldBD8, .op .rlca,
   .imm16 .ldIndA16Sp, .op .addHlBc, .op .ldAIndBc, .op .decBc, .op .incC, .op .decC, .imm8 .ldCD8, .op .rrca]

/-- Opcodes 0x10 to 0x1F. -/
def gridRow1 : List Entry :=
  [.op .stop, .imm16 .ldDeD16, .op .ldIndDeA, .op .incDe, .op .incD, .op .decD, .imm8 .ldDD8, .op .rla,
   .imm8 .jrE8, .op .addHlDe, .op .ldAIndDe, .op .decDe, .op .incE, .op .decE, .imm8 .ldED8, .op .rra]

/-- Opcodes 0x20 to 0x2F. -/
def gridRow2 : List Entry :=
  [.imm8 .jrNzE8, .imm16 .ldHlD16, .op .ldIndHlIncA, .op .incHl, .op .incH, .op .decH, .imm8 .ldHD8, .op .daa,
   .imm8 .jrZE8, .op .addHlHl, .op .ldAIndHlInc, .op .decHl, .op .incL, .op .decL, .imm8 .ldLD8, .op .cpl]

/-- Opcodes 0x30 to 0x3F. -/
def gridRow3 : List Entry :=
  [.imm8 .jrNcE8, .imm16 .ldSpD16, .op .ldIndHlDecA, .op .incSp, .op .incIndHl, .op .decIndHl,
   .imm8 .ldIndHlD8, .op .scf, .imm8 .jrCE8, .op .addHlSp, .op .ldAIndHlDec, .op .decSp, .op .incA, .op .decA,
   .imm8 .ldAD8, .op .ccf]

/-- Opcodes 0x40 to 0x4F. -/
def gridRow4 : List Entry :=
  [.op .ldBB, .op .ldBC, .op .ldBD, .op .ldBE, .op .ldBH, .op .ldBL, .op .ldBIndHl, .op .ldBA, .op .ldCB,
   .op .ldCC, .op .ldCD, .op .ldCE, .op .ldCH, .op .ldCL, .op .ldCIndHl, .op .ldCA]

/-- Opcodes 0x50 to 0x5F. -/
def gridRow5 : List Entry :=
  [.op .ldDB, .op .ldDC, .op .ldDD, .op .ldDE, .op .ldDH, .op .ldDL, .op .ldDIndHl, .op .ldDA, .op .ldEB,
   .op .ldEC, .op .ldED, .op .ldEE, .op .ldEH, .op .ldEL, .op .ldEIndHl, .op .ldEA]

/-- Opcodes 0x60 to 0x6F. -/
def gridRow6 : List Entry :=
  [.op .ldHB, .op .ldHC, .op .ldHD, .op .ldHE, .op .ldHH, .op .ldHL, .op .ldHIndHl, .op .ldHA, .op .ldLB,
   .op .ldLC, .op .ldLD, .op .ldLE, .op .ldLH, .op .ldLL, .op .ldLIndHl, .op .ldLA]

/-- Opcodes 0x70 to 0x7F. -/
def gridRow7 : List Entry :=
  [.op .ldIndHlB, .op .ldIndHlC, .op .ldIndHlD, .op .ldIndHlE, .op .ldIndHlH, .op .ldIndHlL, .op .halt,
   .op .ldIndHlA, .op .ldAB, .op .ldAC, .op .ldAD, .op .ldAE, .op .ldAH, .op .ldAL, .op .ldAIndHl, .op .ldAA]

/-- Opcodes 0x80 to 0x8F. -/
def gridRow8 : List Entry :=
  [.op .addAB, .op .addAC, .op .addAD, .op .addAE, .op .addAH, .op .addAL, .op .addAIndHl, .op .addAA,
   .op .adcAB, .op .adcAC, .op .adcAD, .op .adcAE, .op .adcAH, .op .adcAL, .op .adcAIndHl, .op .adcAA]

/-- Opcodes 0x90 to 0x9F. -/
def gridRow9 : List Entry :=
  [.op .subB, .op .subC, .op .subD, .op .subE, .op .subH, .op .subL, .op .subIndHl, .op .subA, .op .sbcAB,
   .op .sbcAC, .op .sbcAD, .op .sbcAE, .op .sbcAH, .op .sbcAL, .op .sbcAIndHl, .op .sbcAA]

/-- Opcodes 0xA0 to 0xAF. -/
def gridRowA : List Entry :=
  [.op .andB, .op .andC, .op .andD, .op .andE, .op .andH, .op .andL, .op .andIndHl, .op .andA, .op .xorB,
   .op .xorC, .op .xorD, .op .xorE, .op .xorH, .op .xorL, .op .xorIndHl, .op .xorA]

/-- Opcodes 0xB0 to 0xBF. -/
def gridRowB : List Entry :=
  [.op .orB, .op .orC, .op .orD, .op .orE, .op .orH, .op .orL, .op .orIndHl, .op .orA, .op .cpB, .op .cpC,
   .op .cpD, .op .cpE, .op .cpH, .op .cpL, .op .cpIndHl, .op .cpA]

/-- Opcodes 0xC0 to 0xCF. -/
def gridRowC : List Entry :=
  [.op .retNz, .op .popBc, .imm16 .jpNzA16, .imm16 .jpA16, .imm16 .callNzA16, .op .pushBc, .imm8 .addAD8,
   .op .rst00, .op .retZ, .op .ret, .imm16 .jpZA16, .pfx, .imm16 .callZA16, .imm16 .callA16, .imm8 .adcAD8,
   .op .rst08]

/-- Opcodes 0xD0 to 0xDF. -/
def gridRowD : List Entry :=
  [.op .retNc, .op .popDe, .imm16 .jpNcA16, .op .invalidD3, .imm16 .callNcA16, .op .pushDe, .imm8 .subD8,
   .op .rst10, .op .retC, .op .reti, .imm16 .jpCA16, .op .invalidDB, .imm16 .callCA16, .op .invalidDD,
   .imm8 .sbcAD8, .op .rst18]

/-- Opcodes 0xE0 to 0xEF. -/
def gridRowE : List Entry :=
  [.imm8 .ldhIndA8A, .op .popHl, .op .ldIndCA, .op .invalidE3, .op .invalidE4, .op .pushHl, .imm8 .andD8,
   .op .rst20, .imm8 .addSpE8, .op .jpHl, .imm16 .ldIndA16A, .op .invalidEB, .op .invalidEC, .op .invalidED,
   .imm8 .xorD8, .op .rst28]

/-- Opcodes 0xF0 to 0xFF. -/
def gridRowF : List Entry :=
  [.imm8 .ldhAIndA8, .op .popAf, .op .ldAIndC, .op .di, .op .invalidF4, .op .pushAf, .imm8 .orD8, .op .rst30,
   .imm8 .ldHlSpE8, .op .ldSpHl, .imm16 .ldAIndA16, .op .ei, .op .invalidFC, .op .invalidFD, .imm8 .cpD8,
   .op .rst38]

/-- The 256 cells in the order of the opcode byte. -/
def baseTable : List Entry :=
  gridRow0 ++ gridRow1 ++ gridRow2 ++ gridRow3 ++ gridRow4 ++ gridRow5 ++ gridRow6 ++ gridRow7
    ++ gridRow8 ++ gridRow9 ++ gridRowA ++ gridRowB ++ gridRowC ++ gridRowD ++ gridRowE ++ gridRowF

theorem baseTable_length : baseTable.length = 256 := by
  simp only [baseTable, List.length_append]
  rfl

/-- The cell of an opcode byte. -/
def baseEntry (op : Byte) : Entry :=
  baseTable[op.toNat]'(by rw [baseTable_length]; exact op.isLt)

/-! ## The extension table (30_encoding.md R92) -/

/-- Block 0 of the extension table: the rotate or shift of `column` on `r8[row]`. -/
def rotateEntry (col : Fin 8) (r : R8) : Instr :=
  match col with
  | 0 => .rlcR8 r
  | 1 => .rrcR8 r
  | 2 => .rlR8 r
  | 3 => .rrR8 r
  | 4 => .slaR8 r
  | 5 => .sraR8 r
  | 6 => .swapR8 r
  | 7 => .srlR8 r

/-- The instruction that `opcode2` selects after the prefix; all 256 values are defined (R82, R92). -/
def decodeExt (op2 : Byte) : Instr :=
  match block op2 with
  | 0 => rotateEntry (column op2) (R8.ofIndex (row op2))
  | 1 => .bitBR8 (column op2) (R8.ofIndex (row op2))
  | 2 => .resBR8 (column op2) (R8.ofIndex (row op2))
  | 3 => .setBR8 (column op2) (R8.ofIndex (row op2))

/-! ## The decoder -/

/-- The instruction whose byte `k` is `byteAt k`. It looks only at the bytes that belong to the instruction
(R83, R84); every first byte is a defined instruction, the prefix or an invalid slot (R94). -/
def decodeAt (byteAt : Nat → Byte) : Instr :=
  match baseEntry (byteAt 0) with
  | .op i => i
  | .imm8 f => f (byteAt 1)
  | .imm16 f => f (join (byteAt 2) (byteAt 1))
  | .pfx => decodeExt (byteAt 1)

/-- Why a list of bytes is no instruction. -/
inductive DecodeError where
  /-- There is no byte. -/
  | noByte
  /-- The first byte asks for more bytes than there are (R85). -/
  | tooShort (first : Byte)
  deriving DecidableEq, Repr

/-- What the decoder makes of a list of bytes: an instruction and the bytes after it, or a rejection by name. -/
inductive DecodeResult where
  | ok (i : Instr) (rest : List Byte)
  | rejected (why : DecodeError)
  deriving DecidableEq, Repr

/-- The decoder on any list of bytes. The eleven invalid slots decode to their own rows of the table, which fault
when they are run (R93, 46_system.md R277). -/
def decode (bytes : List Byte) : DecodeResult :=
  match bytes with
  | [] => .rejected .noByte
  | b :: _ =>
    if bytes.length < instrLength b then .rejected (.tooShort b)
    else .ok (decodeAt (fun k => bytes.getD k 0)) (bytes.drop (instrLength b))

/-- The host's reading of a row of spec/opcode_table.json: the bytes of `w`, least significant first, zero above
`nbits`, given to the decoder. A row of format CB_OP numbers the bits of `opcode2` and names the prefix apart
(R97); its word here is the whole instruction, `0xCB + 256 * opcode2` (log 8). -/
def decodeTableWord (nbits w : Nat) : Option Instr :=
  some (decodeAt (byteOfNat (w % 2 ^ nbits)))

/-! ## The encoder -/

/-- The bytes of an instruction, in ascending address order (R80). Each line follows the encoding its rule gives;
immediate words are stored low byte first (R84). -/
def encode (i : Instr) : List Byte :=
  match i with
  | .nop => [0x00]
  | .ldBcD16 d => [0x01, lo8 d, hi8 d]
  | .ldIndBcA => [0x02]
  | .incBc => [0x03]
  | .incB => [0x04]
  | .decB => [0x05]
  | .ldBD8 n => [0x06, n]
  | .rlca => [0x07]
  | .ldIndA16Sp a => [0x08, lo8 a, hi8 a]
  | .addHlBc => [0x09]
  | .ldAIndBc => [0x0A]
  | .decBc => [0x0B]
  | .incC => [0x0C]
  | .decC => [0x0D]
  | .ldCD8 n => [0x0E, n]
  | .rrca => [0x0F]
  | .stop => [0x10]
  | .ldDeD16 d => [0x11, lo8 d, hi8 d]
  | .ldIndDeA => [0x12]
  | .incDe => [0x13]
  | .incD => [0x14]
  | .decD => [0x15]
  | .ldDD8 n => [0x16, n]
  | .rla => [0x17]
  | .jrE8 e => [0x18, e]
  | .addHlDe => [0x19]
  | .ldAIndDe => [0x1A]
  | .decDe => [0x1B]
  | .incE => [0x1C]
  | .decE => [0x1D]
  | .ldED8 n => [0x1E, n]
  | .rra => [0x1F]
  | .jrNzE8 e => [0x20, e]
  | .ldHlD16 d => [0x21, lo8 d, hi8 d]
  | .ldIndHlIncA => [0x22]
  | .incHl => [0x23]
  | .incH => [0x24]
  | .decH => [0x25]
  | .ldHD8 n => [0x26, n]
  | .daa => [0x27]
  | .jrZE8 e => [0x28, e]
  | .addHlHl => [0x29]
  | .ldAIndHlInc => [0x2A]
  | .decHl => [0x2B]
  | .incL => [0x2C]
  | .decL => [0x2D]
  | .ldLD8 n => [0x2E, n]
  | .cpl => [0x2F]
  | .jrNcE8 e => [0x30, e]
  | .ldSpD16 d => [0x31, lo8 d, hi8 d]
  | .ldIndHlDecA => [0x32]
  | .incSp => [0x33]
  | .incIndHl => [0x34]
  | .decIndHl => [0x35]
  | .ldIndHlD8 n => [0x36, n]
  | .scf => [0x37]
  | .jrCE8 e => [0x38, e]
  | .addHlSp => [0x39]
  | .ldAIndHlDec => [0x3A]
  | .decSp => [0x3B]
  | .incA => [0x3C]
  | .decA => [0x3D]
  | .ldAD8 n => [0x3E, n]
  | .ccf => [0x3F]
  | .ldBB => [0x40]
  | .ldBC => [0x41]
  | .ldBD => [0x42]
  | .ldBE => [0x43]
  | .ldBH => [0x44]
  | .ldBL => [0x45]
  | .ldBIndHl => [0x46]
  | .ldBA => [0x47]
  | .ldCB => [0x48]
  | .ldCC => [0x49]
  | .ldCD => [0x4A]
  | .ldCE => [0x4B]
  | .ldCH => [0x4C]
  | .ldCL => [0x4D]
  | .ldCIndHl => [0x4E]
  | .ldCA => [0x4F]
  | .ldDB => [0x50]
  | .ldDC => [0x51]
  | .ldDD => [0x52]
  | .ldDE => [0x53]
  | .ldDH => [0x54]
  | .ldDL => [0x55]
  | .ldDIndHl => [0x56]
  | .ldDA => [0x57]
  | .ldEB => [0x58]
  | .ldEC => [0x59]
  | .ldED => [0x5A]
  | .ldEE => [0x5B]
  | .ldEH => [0x5C]
  | .ldEL => [0x5D]
  | .ldEIndHl => [0x5E]
  | .ldEA => [0x5F]
  | .ldHB => [0x60]
  | .ldHC => [0x61]
  | .ldHD => [0x62]
  | .ldHE => [0x63]
  | .ldHH => [0x64]
  | .ldHL => [0x65]
  | .ldHIndHl => [0x66]
  | .ldHA => [0x67]
  | .ldLB => [0x68]
  | .ldLC => [0x69]
  | .ldLD => [0x6A]
  | .ldLE => [0x6B]
  | .ldLH => [0x6C]
  | .ldLL => [0x6D]
  | .ldLIndHl => [0x6E]
  | .ldLA => [0x6F]
  | .ldIndHlB => [0x70]
  | .ldIndHlC => [0x71]
  | .ldIndHlD => [0x72]
  | .ldIndHlE => [0x73]
  | .ldIndHlH => [0x74]
  | .ldIndHlL => [0x75]
  | .halt => [0x76]
  | .ldIndHlA => [0x77]
  | .ldAB => [0x78]
  | .ldAC => [0x79]
  | .ldAD => [0x7A]
  | .ldAE => [0x7B]
  | .ldAH => [0x7C]
  | .ldAL => [0x7D]
  | .ldAIndHl => [0x7E]
  | .ldAA => [0x7F]
  | .addAB => [0x80]
  | .addAC => [0x81]
  | .addAD => [0x82]
  | .addAE => [0x83]
  | .addAH => [0x84]
  | .addAL => [0x85]
  | .addAIndHl => [0x86]
  | .addAA => [0x87]
  | .adcAB => [0x88]
  | .adcAC => [0x89]
  | .adcAD => [0x8A]
  | .adcAE => [0x8B]
  | .adcAH => [0x8C]
  | .adcAL => [0x8D]
  | .adcAIndHl => [0x8E]
  | .adcAA => [0x8F]
  | .subB => [0x90]
  | .subC => [0x91]
  | .subD => [0x92]
  | .subE => [0x93]
  | .subH => [0x94]
  | .subL => [0x95]
  | .subIndHl => [0x96]
  | .subA => [0x97]
  | .sbcAB => [0x98]
  | .sbcAC => [0x99]
  | .sbcAD => [0x9A]
  | .sbcAE => [0x9B]
  | .sbcAH => [0x9C]
  | .sbcAL => [0x9D]
  | .sbcAIndHl => [0x9E]
  | .sbcAA => [0x9F]
  | .andB => [0xA0]
  | .andC => [0xA1]
  | .andD => [0xA2]
  | .andE => [0xA3]
  | .andH => [0xA4]
  | .andL => [0xA5]
  | .andIndHl => [0xA6]
  | .andA => [0xA7]
  | .xorB => [0xA8]
  | .xorC => [0xA9]
  | .xorD => [0xAA]
  | .xorE => [0xAB]
  | .xorH => [0xAC]
  | .xorL => [0xAD]
  | .xorIndHl => [0xAE]
  | .xorA => [0xAF]
  | .orB => [0xB0]
  | .orC => [0xB1]
  | .orD => [0xB2]
  | .orE => [0xB3]
  | .orH => [0xB4]
  | .orL => [0xB5]
  | .orIndHl => [0xB6]
  | .orA => [0xB7]
  | .cpB => [0xB8]
  | .cpC => [0xB9]
  | .cpD => [0xBA]
  | .cpE => [0xBB]
  | .cpH => [0xBC]
  | .cpL => [0xBD]
  | .cpIndHl => [0xBE]
  | .cpA => [0xBF]
  | .retNz => [0xC0]
  | .popBc => [0xC1]
  | .jpNzA16 a => [0xC2, lo8 a, hi8 a]
  | .jpA16 a => [0xC3, lo8 a, hi8 a]
  | .callNzA16 a => [0xC4, lo8 a, hi8 a]
  | .pushBc => [0xC5]
  | .addAD8 n => [0xC6, n]
  | .rst00 => [0xC7]
  | .retZ => [0xC8]
  | .ret => [0xC9]
  | .jpZA16 a => [0xCA, lo8 a, hi8 a]
  | .prefixCb op2 => [0xCB, op2]
  | .callZA16 a => [0xCC, lo8 a, hi8 a]
  | .callA16 a => [0xCD, lo8 a, hi8 a]
  | .adcAD8 n => [0xCE, n]
  | .rst08 => [0xCF]
  | .retNc => [0xD0]
  | .popDe => [0xD1]
  | .jpNcA16 a => [0xD2, lo8 a, hi8 a]
  | .invalidD3 => [0xD3]
  | .callNcA16 a => [0xD4, lo8 a, hi8 a]
  | .pushDe => [0xD5]
  | .subD8 n => [0xD6, n]
  | .rst10 => [0xD7]
  | .retC => [0xD8]
  | .reti => [0xD9]
  | .jpCA16 a => [0xDA, lo8 a, hi8 a]
  | .invalidDB => [0xDB]
  | .callCA16 a => [0xDC, lo8 a, hi8 a]
  | .invalidDD => [0xDD]
  | .sbcAD8 n => [0xDE, n]
  | .rst18 => [0xDF]
  | .ldhIndA8A n => [0xE0, n]
  | .popHl => [0xE1]
  | .ldIndCA => [0xE2]
  | .invalidE3 => [0xE3]
  | .invalidE4 => [0xE4]
  | .pushHl => [0xE5]
  | .andD8 n => [0xE6, n]
  | .rst20 => [0xE7]
  | .addSpE8 e => [0xE8, e]
  | .jpHl => [0xE9]
  | .ldIndA16A a => [0xEA, lo8 a, hi8 a]
  | .invalidEB => [0xEB]
  | .invalidEC => [0xEC]
  | .invalidED => [0xED]
  | .xorD8 n => [0xEE, n]
  | .rst28 => [0xEF]
  | .ldhAIndA8 n => [0xF0, n]
  | .popAf => [0xF1]
  | .ldAIndC => [0xF2]
  | .di => [0xF3]
  | .invalidF4 => [0xF4]
  | .pushAf => [0xF5]
  | .orD8 n => [0xF6, n]
  | .rst30 => [0xF7]
  | .ldHlSpE8 e => [0xF8, e]
  | .ldSpHl => [0xF9]
  | .ldAIndA16 a => [0xFA, lo8 a, hi8 a]
  | .ei => [0xFB]
  | .invalidFC => [0xFC]
  | .invalidFD => [0xFD]
  | .cpD8 n => [0xFE, n]
  | .rst38 => [0xFF]
  | .rlcR8 r => [0xCB, BitVec.ofNat 8 (0x00 + r.index)]
  | .rrcR8 r => [0xCB, BitVec.ofNat 8 (0x08 + r.index)]
  | .rlR8 r => [0xCB, BitVec.ofNat 8 (0x10 + r.index)]
  | .rrR8 r => [0xCB, BitVec.ofNat 8 (0x18 + r.index)]
  | .slaR8 r => [0xCB, BitVec.ofNat 8 (0x20 + r.index)]
  | .sraR8 r => [0xCB, BitVec.ofNat 8 (0x28 + r.index)]
  | .swapR8 r => [0xCB, BitVec.ofNat 8 (0x30 + r.index)]
  | .srlR8 r => [0xCB, BitVec.ofNat 8 (0x38 + r.index)]
  | .bitBR8 b r => [0xCB, BitVec.ofNat 8 (0x40 + 8 * b.val + r.index)]
  | .resBR8 b r => [0xCB, BitVec.ofNat 8 (0x80 + 8 * b.val + r.index)]
  | .setBR8 b r => [0xCB, BitVec.ofNat 8 (0xC0 + 8 * b.val + r.index)]

end Sys2Proof
end

