-- ==== Sys2Proof/Machine/State.lean ====
section
/-! DEFINITION. The whole state of the machine (10_state.md R34: "(af, bc, de, hl, sp, pc, IME, RUN, memory)"),
what can stop a step, and the state after power-on. -/

namespace Sys2Proof.Machine

/-- The address space (20_memory.md R50): the bytes written so far, as (address, byte) pairs with strictly
rising addresses below 65536 (`Memory.wf`). An unlisted address has no known value (log 2). -/
abbrev Memory := List Host.Cell

/-- `RUN` (10_state.md R30): one field of three values. -/
inductive RunState where
  | running
  | halted
  | stopped
  deriving DecidableEq, Repr

/-- The four flags of 10_state.md R22: zero, subtraction, half-carry, carry. -/
structure Flags where
  z : Bool
  n : Bool
  h : Bool
  c : Bool
  deriving DecidableEq, Repr

/-- The machine's state (10_state.md R20, R29, R30, R34; 20_memory.md R50). Pairs hold their two aliases (R21);
`F`, the low byte of `af`, holds the flags (R22). -/
structure State where
  af : Word
  bc : Word
  de : Word
  hl : Word
  sp : Word
  pc : Word
  /-- The interrupt-enable latch `IME` (R29). -/
  ime : Bool
  run : RunState
  mem : Memory
  /-- The model's own counter: how often all of memory has become unspecified (log 2, log 5). It picks the free
  values that unlisted addresses read as; only a failed `Load` of the host advances it. -/
  memEpoch : Nat
  deriving DecidableEq, Repr

/-- The kinds of fault a step may end in (60_exceptions.md R320 to R325). A fault has no successor state. -/
inductive Fault where
  /-- Raised by the eleven invalid slots and by nothing else (R321, R325); `addr` is the address the opcode byte
  was read from. The spec's own outcome; safe. -/
  | invalidOpcode (op : Byte) (addr : Word)
  /-- R322: a defined opcode the implementation lacks. Raised by nothing: every defined opcode has its meaning
  here (log 20). Safe. -/
  | notImplemented (op : Byte) (addr : Word)
  deriving DecidableEq, Repr

/-- A meaning the model lacks. -/
inductive Refusal where
  /-- Raised by an arm of `exec` whose instruction has no meaning yet; no arm is in that case. Safe. -/
  | notModelled (mnemonic : String)
  deriving DecidableEq, Repr

/-- The outcome of one instruction. -/
abbrev StepResult := Host.Outcome State Fault Refusal

/-- The outcome of one call of `Step()` (00_scope.md R9, 60_exceptions.md R320): `Next(s')`, `Fault(kind, info)` or
`Hold`. The host's interface has no `Hold`; `StepOutcome.toHost` (Machine/Cycle.lean) says what it sees (log 3). -/
inductive StepOutcome where
  /-- An instruction ran to its end. -/
  | next (s : State)
  /-- The step failed; there is no successor state. -/
  | fault (why : Fault)
  /-- The core is halted or stopped: nothing was read, the state is unchanged. -/
  | hold
  /-- The instruction has no meaning in the model; no arm of `exec` is in that case. -/
  | refused (why : Refusal)
  deriving DecidableEq, Repr

/-- 70_reset_and_hazards.md R360, 10_state.md R35: the state after the host's `PowerOn()`, for the value `af` of
the OPEN parameter `AF_POWERON` (its low four bits are zero, D1). Nothing is listed in memory: every byte is
`MEM_POWERON`, a free value. -/
def State.powerOn (af : Word) : State :=
  { af := af, bc := 0, de := 0, hl := 0, sp := 0, pc := 0,
    ime := false, run := .running, mem := [], memEpoch := 0 }

/-- The machine right after power-on, with the spec's default for the one OPEN register value (log 1). -/
def State.reset : State := State.powerOn Config.afPowerOn

/-- The names of the 8-bit aliases (10_state.md R21). -/
inductive Reg8 where
  | a | f | b | c | d | e | h | l
  deriving DecidableEq, Repr

/-- The names of the 16-bit registers (10_state.md R20). -/
inductive Reg16 where
  | af | bc | de | hl | sp | pc
  deriving DecidableEq, Repr

end Sys2Proof.Machine
end

