-- ==== Sys2Proof/Machine/Ops.lean ====
section
/-! DEFINITION. The named operations over memory and registers: the memory primitives (20_memory.md R51, R55), the
register file's accessors (10_state.md R20 to R23), the stack primitives (41_load16_stack.md R150, R151), the
instruction fetch (30_encoding.md R83), raising the one fault (60_exceptions.md R321). -/

namespace Sys2Proof.Machine

/-! ## The memory list -/

/-- The byte listed for address `a`, if any. -/
def Memory.lookup : Memory → Nat → Option Byte
  | [], _ => none
  | (k, v) :: m, a => if k = a then some v else Memory.lookup m a

/-- List `v` for address `a`, keeping the addresses strictly rising. -/
def Memory.store : Memory → Nat → Byte → Memory
  | [], a, v => [(a, v)]
  | (k, w) :: m, a, v =>
    if a < k then (a, v) :: (k, w) :: m
    else if a = k then (a, v) :: m
    else (k, w) :: Memory.store m a v

/-- Every address of the list is at least `lo` and below 65536, and the addresses strictly rise. -/
def Memory.wfFrom : Nat → Memory → Bool
  | _, [] => true
  | lo, (k, _) :: m => decide (lo ≤ k) && decide (k < Config.memSize) && Memory.wfFrom (k + 1) m

/-- The canonical form. No entry can equal what an unlisted address reads as, since an unlisted address has no
value at all in the list (log 2). -/
def Memory.wf (m : Memory) : Bool := Memory.wfFrom 0 m

/-- What an unlisted address reads as: a free value of the current epoch (log 2). -/
def unlistedByte (epoch : Nat) (a : Word) : Byte := Config.memUnspecified epoch a

/-! ## The memory primitives -/

/-- `MemRead(addr, 1)` (20_memory.md R51): always succeeds, changes nothing. -/
def State.memRead (s : State) (a : Word) : Byte :=
  (s.mem.lookup a.toNat).getD (unlistedByte s.memEpoch a)

/-- `MemWrite(addr, 1, v)` (R51): always succeeds, changes that one byte and nothing else. -/
def State.memWrite (s : State) (a : Word) (v : Byte) : State :=
  { s with mem := s.mem.store a.toNat v }

/-- `MemRead(addr, 2)` (R55): low byte at `addr`, high byte at `addr + 1` modulo 65536. -/
def State.memRead16 (s : State) (a : Word) : Word :=
  join (s.memRead (a + 1)) (s.memRead a)

/-- `MemWrite(addr, 2, v)` (R55): low byte at `addr`, then high byte at `addr + 1` modulo 65536. -/
def State.memWrite16 (s : State) (a : Word) (v : Word) : State :=
  (s.memWrite a (lo8 v)).memWrite (a + 1) (hi8 v)

/-! ## The 16-bit registers -/

/-- `AF <- v` stores `v & 0xFFF0` (10_state.md R23). -/
def State.setAf (s : State) (v : Word) : State := { s with af := v &&& 0xFFF0 }
def State.setBc (s : State) (v : Word) : State := { s with bc := v }
def State.setDe (s : State) (v : Word) : State := { s with de := v }
def State.setHl (s : State) (v : Word) : State := { s with hl := v }
def State.setSp (s : State) (v : Word) : State := { s with sp := v }
def State.setPc (s : State) (v : Word) : State := { s with pc := v }
/-- `IME <- b` (10_state.md R29). -/
def State.setIme (s : State) (b : Bool) : State := { s with ime := b }
/-- `RUN <- r` (10_state.md R30). -/
def State.setRun (s : State) (r : RunState) : State := { s with run := r }

/-! ## The 8-bit aliases (10_state.md R21): the high alias is bits 15:8 of its pair, the low alias bits 7:0 -/

def State.a (s : State) : Byte := hi8 s.af
def State.f (s : State) : Byte := lo8 s.af
def State.b (s : State) : Byte := hi8 s.bc
def State.c (s : State) : Byte := lo8 s.bc
def State.d (s : State) : Byte := hi8 s.de
def State.e (s : State) : Byte := lo8 s.de
def State.h (s : State) : Byte := hi8 s.hl
def State.l (s : State) : Byte := lo8 s.hl

def State.setA (s : State) (v : Byte) : State := { s with af := join v (lo8 s.af) }
/-- `F <- v` stores `v & 0xF0` (10_state.md R23). -/
def State.setF (s : State) (v : Byte) : State := { s with af := join (hi8 s.af) (v &&& 0xF0) }
def State.setB (s : State) (v : Byte) : State := { s with bc := join v (lo8 s.bc) }
def State.setC (s : State) (v : Byte) : State := { s with bc := join (hi8 s.bc) v }
def State.setD (s : State) (v : Byte) : State := { s with de := join v (lo8 s.de) }
def State.setE (s : State) (v : Byte) : State := { s with de := join (hi8 s.de) v }
def State.setH (s : State) (v : Byte) : State := { s with hl := join v (lo8 s.hl) }
def State.setL (s : State) (v : Byte) : State := { s with hl := join (hi8 s.hl) v }

/-! ## The flags (10_state.md R22): `fZ = F[7]`, `fN = F[6]`, `fH = F[5]`, `fC = F[4]` -/

def State.fZ (s : State) : Bool := s.f.getLsbD 7
def State.fN (s : State) : Bool := s.f.getLsbD 6
def State.fH (s : State) : Bool := s.f.getLsbD 5
def State.fC (s : State) : Bool := s.f.getLsbD 4

def State.flags (s : State) : Flags := { z := s.fZ, n := s.fN, h := s.fH, c := s.fC }

/-- The flag bits of `F` with the given values and every other bit of `F` as it was. -/
def withFlagBits (v : Byte) (g : Flags) : Byte :=
  setBit8 (setBit8 (setBit8 (setBit8 v 7 g.z) 6 g.n) 5 g.h) 4 g.c

/-- Write the four flags: "writing a flag writes that bit of `F` and no other bit of `af`" (R22). A rule that leaves
a flag unchanged passes that flag's present value. -/
def State.setFlags (s : State) (g : Flags) : State :=
  { s with af := join (hi8 s.af) (withFlagBits (lo8 s.af) g) }

/-! ## The stack primitives -/

/-- `Push16(v)` (41_load16_stack.md R150): high byte first, at the higher address. -/
def State.push16 (s : State) (v : Word) : State :=
  let s1 := (s.setSp (s.sp - 1)).memWrite (s.sp - 1) (hi8 v)
  (s1.setSp (s1.sp - 1)).memWrite (s1.sp - 1) (lo8 v)

/-- The word `Pop16()` gives (R151): low byte at `sp`, high byte at `sp + 1`. -/
def State.popValue (s : State) : Word := join (s.memRead (s.sp + 1)) (s.memRead s.sp)

/-- The state `Pop16()` leaves (R151): `sp` raised by 2, memory unchanged. -/
def State.popped (s : State) : State := s.setSp (s.sp + 1 + 1)

/-! ## Fetch and fault -/

/-- The instruction whose first byte is at `a` (30_encoding.md R83; bytes at successive addresses modulo 65536).
A previewing tool uses it with a cursor of its own (60_exceptions.md R334): it reads and changes nothing. -/
def State.instrAt (s : State) (a : Word) : Instr :=
  decodeAt (fun k => s.memRead (a + BitVec.ofNat 16 k))

/-- The length of the instruction whose first byte is at `pc` (30_encoding.md R85). -/
def State.fetchLength (s : State) : Nat := instrLength (s.memRead s.pc)

/-- The state in which an instruction's effect runs: `pc` "already holds the address of the byte after the
instruction's last byte" (10_state.md R28; log 6). -/
def State.pastInstr (s : State) : State := s.setPc (s.pc + BitVec.ofNat 16 s.fetchLength)

/-- `raise InvalidOpcode(op, at)` (60_exceptions.md R321, 46_system.md R277), the one exception of this core, shared
by all eleven slots. There is no trap entry: nothing is saved, no vector is taken, the step has no successor (R328).
`pc` is already past the one opcode byte (R28), so the byte's address is `pc - 1` (log 6). -/
def raiseInvalidOpcode (op : Byte) (s : State) : StepResult :=
  .fault (.invalidOpcode op (s.pc - 1))

/-- The three bytes of a word laid out where the next step fetches, and the core running (log 9). -/
def State.placeInstr (s : State) (w : Nat) : State :=
  (((s.memWrite s.pc (byteOfNat w 0)).memWrite (s.pc + 1) (byteOfNat w 1)).memWrite
    (s.pc + 2) (byteOfNat w 2)).setRun .running

end Sys2Proof.Machine
end

