-- ==== Sys2Proof/Machine/Operands.lean ====
section
/-! DEFINITION. Every operand form: the tables of 10_state.md R24 to R26, the addressing forms of 20_memory.md R64,
and the access to registers by name that the host has (10_state.md R37). -/

namespace Sys2Proof.Machine

/-- `r8get(i)` (10_state.md R24): the alias, or the byte at `hl` for `(HL)`. -/
def State.r8get (s : State) (r : R8) : Byte :=
  match r with
  | .b => s.b
  | .c => s.c
  | .d => s.d
  | .e => s.e
  | .h => s.h
  | .l => s.l
  | .indHl => s.memRead s.hl
  | .a => s.a

/-- `r8set(i, v)` (R24): the alias, or a store at `hl` for `(HL)`. -/
def State.r8set (s : State) (r : R8) (v : Byte) : State :=
  match r with
  | .b => s.setB v
  | .c => s.setC v
  | .d => s.setD v
  | .e => s.setE v
  | .h => s.setH v
  | .l => s.setL v
  | .indHl => s.memWrite s.hl v
  | .a => s.setA v

/-- `rpget(p)` (10_state.md R25). -/
def State.pairGet (s : State) (p : Pair) : Word :=
  match p with
  | .bc => s.bc
  | .de => s.de
  | .hl => s.hl
  | .sp => s.sp

/-- `rpset(p, v)` (R25). -/
def State.pairSet (s : State) (p : Pair) (v : Word) : State :=
  match p with
  | .bc => s.setBc v
  | .de => s.setDe v
  | .hl => s.setHl v
  | .sp => s.setSp v

/-- `rp2get(p)` (R25). -/
def State.stackPairGet (s : State) (p : StackPair) : Word :=
  match p with
  | .bc => s.bc
  | .de => s.de
  | .hl => s.hl
  | .af => s.af

/-- `rp2set(p, v)` (R25), with R23's mask for AF. -/
def State.stackPairSet (s : State) (p : StackPair) (v : Word) : State :=
  match p with
  | .bc => s.setBc v
  | .de => s.setDe v
  | .hl => s.setHl v
  | .af => s.setAf v

/-- `cond(cc)` (10_state.md R26): reads flags, writes nothing. -/
def State.cond (s : State) (cc : Cond) : Bool :=
  match cc with
  | .nz => !s.fZ
  | .z => s.fZ
  | .nc => !s.fC
  | .c => s.fC

/-- The high-page address `0xFF00 + n`, the offset unsigned (20_memory.md R64; 30_encoding.md R86, kind `a8`). -/
def highPage (n : Byte) : Word := 0xFF00 + zext16 n

/-- An 8-bit alias by name (R21, R37). -/
def State.reg8 (s : State) (r : Reg8) : Byte :=
  match r with
  | .a => s.a
  | .f => s.f
  | .b => s.b
  | .c => s.c
  | .d => s.d
  | .e => s.e
  | .h => s.h
  | .l => s.l

/-- Write of an 8-bit alias by name (R21, R23, R37). -/
def State.setReg8 (s : State) (r : Reg8) (v : Byte) : State :=
  match r with
  | .a => s.setA v
  | .f => s.setF v
  | .b => s.setB v
  | .c => s.setC v
  | .d => s.setD v
  | .e => s.setE v
  | .h => s.setH v
  | .l => s.setL v

/-- A 16-bit register by name (R20, R37). -/
def State.reg16 (s : State) (r : Reg16) : Word :=
  match r with
  | .af => s.af
  | .bc => s.bc
  | .de => s.de
  | .hl => s.hl
  | .sp => s.sp
  | .pc => s.pc

/-- Write of a 16-bit register by name (R20, R23, R37). -/
def State.setReg16 (s : State) (r : Reg16) (v : Word) : State :=
  match r with
  | .af => s.setAf v
  | .bc => s.setBc v
  | .de => s.setDe v
  | .hl => s.setHl v
  | .sp => s.setSp v
  | .pc => s.setPc v

end Sys2Proof.Machine
end

