-- ==== Sys2Proof/Machine/Flags.lean ====
section
/-! DEFINITION. Every flag computation and the pure 8-bit functions behind the rotates, shifts and DAA. Sums and
differences are taken on natural numbers, as the rules write them, and compared there. -/

namespace Sys2Proof.Machine

/-! ## Additions and subtractions of bytes (45_alu8.md R241 to R248) -/

/-- ADD and ADC (R241, R242): carry out of bit 3 and of bit 7 of `a + x + c`; `c` is false for ADD. -/
def addFlags (a x : Byte) (c : Bool) : Flags :=
  { z := decide ((a.toNat + x.toNat + c.toNat) % 256 = 0)
    n := false
    h := decide (a.toNat % 16 + x.toNat % 16 + c.toNat > 0xF)
    c := decide (a.toNat + x.toNat + c.toNat > 0xFF) }

/-- SUB, SBC, CP (R243, R244, R248): borrow out of bit 3 and of bit 7 of `a - x - c`, the comparisons on natural
numbers; `c` is false for SUB and CP. -/
def subFlags (a x : Byte) (c : Bool) : Flags :=
  { z := decide (a - x - BitVec.ofNat 8 c.toNat = 0)
    n := true
    h := decide (a.toNat % 16 < x.toNat % 16 + c.toNat)
    c := decide (a.toNat < x.toNat + c.toNat) }

/-- AND (R245). -/
def andFlags (res : Byte) : Flags := { z := decide (res = 0), n := false, h := true, c := false }

/-- XOR and OR (R246, R247). -/
def orFlags (res : Byte) : Flags := { z := decide (res = 0), n := false, h := false, c := false }

/-! ## Increment, decrement, 16-bit sums (42_incdec_add16.md) -/

/-- INC r8 (R170); the carry is kept. -/
def incFlags (old : Byte) (g : Flags) : Flags :=
  { z := decide (old + 1 = 0), n := false, h := decide (old.toNat % 16 = 0xF), c := g.c }

/-- DEC r8 (R171); the carry is kept. -/
def decFlags (old : Byte) (g : Flags) : Flags :=
  { z := decide (old - 1 = 0), n := true, h := decide (old.toNat % 16 = 0x0), c := g.c }

/-- ADD HL,rr (R174): carries out of bit 11 and bit 15; the zero flag is kept. -/
def addHlFlags (a b : Word) (g : Flags) : Flags :=
  { z := g.z
    n := false
    h := decide (a.toNat % 4096 + b.toNat % 4096 > 0xFFF)
    c := decide (a.toNat + b.toNat > 0xFFFF) }

/-- ADD SP,e8 and LD HL,SP+e8 (R175, 41_load16_stack.md R155): carries out of bit 3 and bit 7 of the unsigned sum
of the low byte of `sp` and the raw byte. -/
def spPlusFlags (sp : Word) (e : Byte) : Flags :=
  { z := false
    n := false
    h := decide (sp.toNat % 16 + e.toNat % 16 > 0xF)
    c := decide (sp.toNat % 256 + e.toNat > 0xFF) }

/-! ## Rotates, shifts, SWAP: the result and the bit that leaves (47_cb.md R291 to R298; 43_acc_rotate_misc.md) -/

/-- A bit as a byte: `bool2bit`. -/
def bitByte (b : Bool) : Byte := if b then 1 else 0

def rlc8 (v : Byte) : Byte × Bool := ((v <<< 1) ||| bitByte (v.getLsbD 7), v.getLsbD 7)
def rrc8 (v : Byte) : Byte × Bool := ((v >>> 1) ||| (bitByte (v.getLsbD 0) <<< 7), v.getLsbD 0)
/-- The previous carry `c` enters bit 0. -/
def rl8 (c : Bool) (v : Byte) : Byte × Bool := ((v <<< 1) ||| bitByte c, v.getLsbD 7)
/-- The previous carry `c` enters bit 7. -/
def rr8 (c : Bool) (v : Byte) : Byte × Bool := ((v >>> 1) ||| (bitByte c <<< 7), v.getLsbD 0)
def sla8 (v : Byte) : Byte × Bool := (v <<< 1, v.getLsbD 7)
def sra8 (v : Byte) : Byte × Bool := ((v >>> 1) ||| (v &&& 0x80), v.getLsbD 0)
/-- SWAP clears the carry (R297). -/
def swap8 (v : Byte) : Byte × Bool := ((v <<< 4) ||| (v >>> 4), false)
def srl8 (v : Byte) : Byte × Bool := (v >>> 1, v.getLsbD 0)

/-- Flags of an extension-table rotate or shift: zero from the result (R290), carry the bit that left. -/
def rotateFlags (res : Byte) (out : Bool) : Flags :=
  { z := decide (res = 0), n := false, h := false, c := out }

/-- Flags of RLCA, RRCA, RLA, RRA: zero forced to 0 (R190 to R193). -/
def rotateAFlags (out : Bool) : Flags := { z := false, n := false, h := false, c := out }

/-- BIT b,r (R299): zero is the complement of the tested bit; the carry is kept. -/
def bitFlags (v : Byte) (b : Nat) (g : Flags) : Flags :=
  { z := !v.getLsbD b, n := false, h := true, c := g.c }

/-! ## Decimal adjust (43_acc_rotate_misc.md R194) -/

/-- The adjustment DAA adds or subtracts. Both tests of the addition path look at the old `A`. -/
def daaAdjust (a : Byte) (g : Flags) : Byte :=
  if g.n then (if g.h then 0x06 else 0) + (if g.c then 0x60 else 0)
  else (if g.h = true ∨ a.toNat % 16 > 9 then 0x06 else 0) + (if g.c = true ∨ a.toNat > 0x99 then 0x60 else 0)

/-- The carry DAA leaves: kept on the subtraction path, also set by `A > 0x99` on the addition path. -/
def daaCarry (a : Byte) (g : Flags) : Bool :=
  if g.n then g.c else g.c || decide (a.toNat > 0x99)

/-- The new `A`. -/
def daaResult (a : Byte) (g : Flags) : Byte :=
  if g.n then a - daaAdjust a g else a + daaAdjust a g

/-- Zero from the new `A`, subtraction kept, half-carry cleared, carry as `daaCarry`. -/
def daaFlags (a : Byte) (g : Flags) : Flags :=
  { z := decide (daaResult a g = 0), n := g.n, h := false, c := daaCarry a g }

end Sys2Proof.Machine
end

