-- ==== Sys2Proof/Machine/AccMisc.lean ====
section
/-! DEFINITION. Accumulator rotates, decimal adjust, complement, carry operations (43_acc_rotate_misc.md R190 to R197). One meaning per constructor. -/

namespace Sys2Proof.Machine

/-- RLCA, RRCA, RLA, RRA (R190 to R193). -/
def State.rotateA (s : State) (op : Byte → Byte × Bool) : State :=
  (s.setA (op s.a).1).setFlags (rotateAFlags (op s.a).2)

/-- DAA (R194). -/
def State.decimalAdjust (s : State) : State :=
  (s.setA (daaResult s.a s.flags)).setFlags (daaFlags s.a s.flags)

/-- CPL (R195): zero and carry kept. -/
def State.complementA (s : State) : State :=
  (s.setA (s.a ^^^ 0xFF)).setFlags { s.flags with n := true, h := true }

/-- SCF (R196): zero kept. -/
def State.setCarryFlag (s : State) : State :=
  s.setFlags { s.flags with n := false, h := false, c := true }

/-- CCF (R197): zero kept. -/
def State.complementCarryFlag (s : State) : State :=
  s.setFlags { s.flags with n := false, h := false, c := !s.fC }

/-- 07 RLCA (R190). -/
def execRlca (s : State) : StepResult := .next (s.rotateA rlc8)

/-- 0F RRCA (R191). -/
def execRrca (s : State) : StepResult := .next (s.rotateA rrc8)

/-- 17 RLA (R192). -/
def execRla (s : State) : StepResult := .next (s.rotateA (rl8 s.fC))

/-- 1F RRA (R193). -/
def execRra (s : State) : StepResult := .next (s.rotateA (rr8 s.fC))

/-- 27 DAA (R194). -/
def execDaa (s : State) : StepResult := .next (s.decimalAdjust)

/-- 2F CPL (R195). -/
def execCpl (s : State) : StepResult := .next (s.complementA)

/-- 37 SCF (R196). -/
def execScf (s : State) : StepResult := .next (s.setCarryFlag)

/-- 3F CCF (R197). -/
def execCcf (s : State) : StepResult := .next (s.complementCarryFlag)

end Sys2Proof.Machine
end

