-- ==== Sys2Proof/Machine/Alu8.lean ====
section
/-! DEFINITION. The accumulator ALU group (45_alu8.md R240 to R249): `x` is an 8-bit operand or an immediate byte. One meaning per constructor. -/

namespace Sys2Proof.Machine

/-- ADD A,x (R241). -/
def State.aluAdd (s : State) (x : Byte) : State := (s.setA (s.a + x)).setFlags (addFlags s.a x false)

/-- ADC A,x (R242). -/
def State.aluAdc (s : State) (x : Byte) : State :=
  (s.setA (s.a + x + BitVec.ofNat 8 s.fC.toNat)).setFlags (addFlags s.a x s.fC)

/-- SUB x (R243). -/
def State.aluSub (s : State) (x : Byte) : State := (s.setA (s.a - x)).setFlags (subFlags s.a x false)

/-- SBC A,x (R244). -/
def State.aluSbc (s : State) (x : Byte) : State :=
  (s.setA (s.a - x - BitVec.ofNat 8 s.fC.toNat)).setFlags (subFlags s.a x s.fC)

/-- AND x (R245). -/
def State.aluAnd (s : State) (x : Byte) : State := (s.setA (s.a &&& x)).setFlags (andFlags (s.a &&& x))

/-- XOR x (R246). -/
def State.aluXor (s : State) (x : Byte) : State := (s.setA (s.a ^^^ x)).setFlags (orFlags (s.a ^^^ x))

/-- OR x (R247). -/
def State.aluOr (s : State) (x : Byte) : State := (s.setA (s.a ||| x)).setFlags (orFlags (s.a ||| x))

/-- CP x (R248): the flags of SUB, `A` not written. -/
def State.aluCp (s : State) (x : Byte) : State := s.setFlags (subFlags s.a x false)

/-- 80 ADD A,B (R241). -/
def execAddAB (s : State) : StepResult := .next (s.aluAdd (s.r8get .b))

/-- 81 ADD A,C (R241). -/
def execAddAC (s : State) : StepResult := .next (s.aluAdd (s.r8get .c))

/-- 82 ADD A,D (R241). -/
def execAddAD (s : State) : StepResult := .next (s.aluAdd (s.r8get .d))

/-- 83 ADD A,E (R241). -/
def execAddAE (s : State) : StepResult := .next (s.aluAdd (s.r8get .e))

/-- 84 ADD A,H (R241). -/
def execAddAH (s : State) : StepResult := .next (s.aluAdd (s.r8get .h))

/-- 85 ADD A,L (R241). -/
def execAddAL (s : State) : StepResult := .next (s.aluAdd (s.r8get .l))

/-- 86 ADD A,(HL) (R241). -/
def execAddAIndHl (s : State) : StepResult := .next (s.aluAdd (s.r8get .indHl))

/-- 87 ADD A,A (R241). -/
def execAddAA (s : State) : StepResult := .next (s.aluAdd (s.r8get .a))

/-- 88 ADC A,B (R242). -/
def execAdcAB (s : State) : StepResult := .next (s.aluAdc (s.r8get .b))

/-- 89 ADC A,C (R242). -/
def execAdcAC (s : State) : StepResult := .next (s.aluAdc (s.r8get .c))

/-- 8A ADC A,D (R242). -/
def execAdcAD (s : State) : StepResult := .next (s.aluAdc (s.r8get .d))

/-- 8B ADC A,E (R242). -/
def execAdcAE (s : State) : StepResult := .next (s.aluAdc (s.r8get .e))

/-- 8C ADC A,H (R242). -/
def execAdcAH (s : State) : StepResult := .next (s.aluAdc (s.r8get .h))

/-- 8D ADC A,L (R242). -/
def execAdcAL (s : State) : StepResult := .next (s.aluAdc (s.r8get .l))

/-- 8E ADC A,(HL) (R242). -/
def execAdcAIndHl (s : State) : StepResult := .next (s.aluAdc (s.r8get .indHl))

/-- 8F ADC A,A (R242). -/
def execAdcAA (s : State) : StepResult := .next (s.aluAdc (s.r8get .a))

/-- 90 SUB B (R243). -/
def execSubB (s : State) : StepResult := .next (s.aluSub (s.r8get .b))

/-- 91 SUB C (R243). -/
def execSubC (s : State) : StepResult := .next (s.aluSub (s.r8get .c))

/-- 92 SUB D (R243). -/
def execSubD (s : State) : StepResult := .next (s.aluSub (s.r8get .d))

/-- 93 SUB E (R243). -/
def execSubE (s : State) : StepResult := .next (s.aluSub (s.r8get .e))

/-- 94 SUB H (R243). -/
def execSubH (s : State) : StepResult := .next (s.aluSub (s.r8get .h))

/-- 95 SUB L (R243). -/
def execSubL (s : State) : StepResult := .next (s.aluSub (s.r8get .l))

/-- 96 SUB (HL) (R243). -/
def execSubIndHl (s : State) : StepResult := .next (s.aluSub (s.r8get .indHl))

/-- 97 SUB A (R243). -/
def execSubA (s : State) : StepResult := .next (s.aluSub (s.r8get .a))

/-- 98 SBC A,B (R244). -/
def execSbcAB (s : State) : StepResult := .next (s.aluSbc (s.r8get .b))

/-- 99 SBC A,C (R244). -/
def execSbcAC (s : State) : StepResult := .next (s.aluSbc (s.r8get .c))

/-- 9A SBC A,D (R244). -/
def execSbcAD (s : State) : StepResult := .next (s.aluSbc (s.r8get .d))

/-- 9B SBC A,E (R244). -/
def execSbcAE (s : State) : StepResult := .next (s.aluSbc (s.r8get .e))

/-- 9C SBC A,H (R244). -/
def execSbcAH (s : State) : StepResult := .next (s.aluSbc (s.r8get .h))

/-- 9D SBC A,L (R244). -/
def execSbcAL (s : State) : StepResult := .next (s.aluSbc (s.r8get .l))

/-- 9E SBC A,(HL) (R244). -/
def execSbcAIndHl (s : State) : StepResult := .next (s.aluSbc (s.r8get .indHl))

/-- 9F SBC A,A (R244). -/
def execSbcAA (s : State) : StepResult := .next (s.aluSbc (s.r8get .a))

/-- A0 AND B (R245). -/
def execAndB (s : State) : StepResult := .next (s.aluAnd (s.r8get .b))

/-- A1 AND C (R245). -/
def execAndC (s : State) : StepResult := .next (s.aluAnd (s.r8get .c))

/-- A2 AND D (R245). -/
def execAndD (s : State) : StepResult := .next (s.aluAnd (s.r8get .d))

/-- A3 AND E (R245). -/
def execAndE (s : State) : StepResult := .next (s.aluAnd (s.r8get .e))

/-- A4 AND H (R245). -/
def execAndH (s : State) : StepResult := .next (s.aluAnd (s.r8get .h))

/-- A5 AND L (R245). -/
def execAndL (s : State) : StepResult := .next (s.aluAnd (s.r8get .l))

/-- A6 AND (HL) (R245). -/
def execAndIndHl (s : State) : StepResult := .next (s.aluAnd (s.r8get .indHl))

/-- A7 AND A (R245). -/
def execAndA (s : State) : StepResult := .next (s.aluAnd (s.r8get .a))

/-- A8 XOR B (R246). -/
def execXorB (s : State) : StepResult := .next (s.aluXor (s.r8get .b))

/-- A9 XOR C (R246). -/
def execXorC (s : State) : StepResult := .next (s.aluXor (s.r8get .c))

/-- AA XOR D (R246). -/
def execXorD (s : State) : StepResult := .next (s.aluXor (s.r8get .d))

/-- AB XOR E (R246). -/
def execXorE (s : State) : StepResult := .next (s.aluXor (s.r8get .e))

/-- AC XOR H (R246). -/
def execXorH (s : State) : StepResult := .next (s.aluXor (s.r8get .h))

/-- AD XOR L (R246). -/
def execXorL (s : State) : StepResult := .next (s.aluXor (s.r8get .l))

/-- AE XOR (HL) (R246). -/
def execXorIndHl (s : State) : StepResult := .next (s.aluXor (s.r8get .indHl))

/-- AF XOR A (R246). -/
def execXorA (s : State) : StepResult := .next (s.aluXor (s.r8get .a))

/-- B0 OR B (R247). -/
def execOrB (s : State) : StepResult := .next (s.aluOr (s.r8get .b))

/-- B1 OR C (R247). -/
def execOrC (s : State) : StepResult := .next (s.aluOr (s.r8get .c))

/-- B2 OR D (R247). -/
def execOrD (s : State) : StepResult := .next (s.aluOr (s.r8get .d))

/-- B3 OR E (R247). -/
def execOrE (s : State) : StepResult := .next (s.aluOr (s.r8get .e))

/-- B4 OR H (R247). -/
def execOrH (s : State) : StepResult := .next (s.aluOr (s.r8get .h))

/-- B5 OR L (R247). -/
def execOrL (s : State) : StepResult := .next (s.aluOr (s.r8get .l))

/-- B6 OR (HL) (R247). -/
def execOrIndHl (s : State) : StepResult := .next (s.aluOr (s.r8get .indHl))

/-- B7 OR A (R247). -/
def execOrA (s : State) : StepResult := .next (s.aluOr (s.r8get .a))

/-- B8 CP B (R248). -/
def execCpB (s : State) : StepResult := .next (s.aluCp (s.r8get .b))

/-- B9 CP C (R248). -/
def execCpC (s : State) : StepResult := .next (s.aluCp (s.r8get .c))

/-- BA CP D (R248). -/
def execCpD (s : State) : StepResult := .next (s.aluCp (s.r8get .d))

/-- BB CP E (R248). -/
def execCpE (s : State) : StepResult := .next (s.aluCp (s.r8get .e))

/-- BC CP H (R248). -/
def execCpH (s : State) : StepResult := .next (s.aluCp (s.r8get .h))

/-- BD CP L (R248). -/
def execCpL (s : State) : StepResult := .next (s.aluCp (s.r8get .l))

/-- BE CP (HL) (R248). -/
def execCpIndHl (s : State) : StepResult := .next (s.aluCp (s.r8get .indHl))

/-- BF CP A (R248). -/
def execCpA (s : State) : StepResult := .next (s.aluCp (s.r8get .a))

/-- C6 ADD A,d8 (R241). -/
def execAddAD8 (n : Byte) (s : State) : StepResult := .next (s.aluAdd n)

/-- CE ADC A,d8 (R242). -/
def execAdcAD8 (n : Byte) (s : State) : StepResult := .next (s.aluAdc n)

/-- D6 SUB d8 (R243). -/
def execSubD8 (n : Byte) (s : State) : StepResult := .next (s.aluSub n)

/-- DE SBC A,d8 (R244). -/
def execSbcAD8 (n : Byte) (s : State) : StepResult := .next (s.aluSbc n)

/-- E6 AND d8 (R245). -/
def execAndD8 (n : Byte) (s : State) : StepResult := .next (s.aluAnd n)

/-- EE XOR d8 (R246). -/
def execXorD8 (n : Byte) (s : State) : StepResult := .next (s.aluXor n)

/-- F6 OR d8 (R247). -/
def execOrD8 (n : Byte) (s : State) : StepResult := .next (s.aluOr n)

/-- FE CP d8 (R248). -/
def execCpD8 (n : Byte) (s : State) : StepResult := .next (s.aluCp n)

end Sys2Proof.Machine
end

