-- ==== Sys2Proof/Machine/Control.lean ====
section
/-! DEFINITION. Control transfer (44_control.md R210 to R221). `pc` is already past the instruction, immediates
included, whether or not a condition holds (R210 e); no flag is written. One meaning per constructor. -/

namespace Sys2Proof.Machine

/-- JR (R211): relative to the address after the instruction. -/
def State.jumpRel (s : State) (e : Byte) : State := s.setPc (s.pc + sext16 e)

/-- JR cc (R212). -/
def State.jumpRelIf (s : State) (cc : Cond) (e : Byte) : State := if s.cond cc then s.jumpRel e else s

/-- JP cc (R214). -/
def State.jumpIf (s : State) (cc : Cond) (a : Word) : State := if s.cond cc then s.setPc a else s

/-- CALL and RST (R216, R221): push the address after the instruction, then jump. -/
def State.call (s : State) (a : Word) : State := (s.push16 s.pc).setPc a

/-- CALL cc (R217). -/
def State.callIf (s : State) (cc : Cond) (a : Word) : State := if s.cond cc then s.call a else s

/-- RET (R218): the return from a call, a restart or whatever pushed the word. There is no other return, since there
is no trap (60_exceptions.md R329); RETI adds one write of `IME` (R219). -/
def State.ret (s : State) : State := s.popped.setPc s.popValue

/-- RET cc (R220). -/
def State.retIf (s : State) (cc : Cond) : State := if s.cond cc then s.ret else s

/-- 18 JR e8 (R211). -/
def execJrE8 (e : Byte) (s : State) : StepResult := .next (s.jumpRel e)

/-- 20 JR NZ,e8 (R212). -/
def execJrNzE8 (e : Byte) (s : State) : StepResult := .next (s.jumpRelIf .nz e)

/-- 28 JR Z,e8 (R212). -/
def execJrZE8 (e : Byte) (s : State) : StepResult := .next (s.jumpRelIf .z e)

/-- 30 JR NC,e8 (R212). -/
def execJrNcE8 (e : Byte) (s : State) : StepResult := .next (s.jumpRelIf .nc e)

/-- 38 JR C,e8 (R212). -/
def execJrCE8 (e : Byte) (s : State) : StepResult := .next (s.jumpRelIf .c e)

/-- C0 RET NZ (R220). -/
def execRetNz (s : State) : StepResult := .next (s.retIf .nz)

/-- C2 JP NZ,a16 (R214). -/
def execJpNzA16 (a : Word) (s : State) : StepResult := .next (s.jumpIf .nz a)

/-- C3 JP a16 (R213). -/
def execJpA16 (a : Word) (s : State) : StepResult := .next (s.setPc a)

/-- C4 CALL NZ,a16 (R217). -/
def execCallNzA16 (a : Word) (s : State) : StepResult := .next (s.callIf .nz a)

/-- C7 RST 0x00 (R221). -/
def execRst00 (s : State) : StepResult := .next (s.call 0x0000)

/-- C8 RET Z (R220). -/
def execRetZ (s : State) : StepResult := .next (s.retIf .z)

/-- C9 RET (R218). -/
def execRet (s : State) : StepResult := .next (s.ret)

/-- CA JP Z,a16 (R214). -/
def execJpZA16 (a : Word) (s : State) : StepResult := .next (s.jumpIf .z a)

/-- CC CALL Z,a16 (R217). -/
def execCallZA16 (a : Word) (s : State) : StepResult := .next (s.callIf .z a)

/-- CD CALL a16 (R216). -/
def execCallA16 (a : Word) (s : State) : StepResult := .next (s.call a)

/-- CF RST 0x08 (R221). -/
def execRst08 (s : State) : StepResult := .next (s.call 0x0008)

/-- D0 RET NC (R220). -/
def execRetNc (s : State) : StepResult := .next (s.retIf .nc)

/-- D2 JP NC,a16 (R214). -/
def execJpNcA16 (a : Word) (s : State) : StepResult := .next (s.jumpIf .nc a)

/-- D4 CALL NC,a16 (R217). -/
def execCallNcA16 (a : Word) (s : State) : StepResult := .next (s.callIf .nc a)

/-- D7 RST 0x10 (R221). -/
def execRst10 (s : State) : StepResult := .next (s.call 0x0010)

/-- D8 RET C (R220). -/
def execRetC (s : State) : StepResult := .next (s.retIf .c)

/-- D9 RETI (R219). -/
def execReti (s : State) : StepResult := .next (s.ret.setIme true)

/-- DA JP C,a16 (R214). -/
def execJpCA16 (a : Word) (s : State) : StepResult := .next (s.jumpIf .c a)

/-- DC CALL C,a16 (R217). -/
def execCallCA16 (a : Word) (s : State) : StepResult := .next (s.callIf .c a)

/-- DF RST 0x18 (R221). -/
def execRst18 (s : State) : StepResult := .next (s.call 0x0018)

/-- E7 RST 0x20 (R221). -/
def execRst20 (s : State) : StepResult := .next (s.call 0x0020)

/-- E9 JP HL (R215). -/
def execJpHl (s : State) : StepResult := .next (s.setPc s.hl)

/-- EF RST 0x28 (R221). -/
def execRst28 (s : State) : StepResult := .next (s.call 0x0028)

/-- F7 RST 0x30 (R221). -/
def execRst30 (s : State) : StepResult := .next (s.call 0x0030)

/-- FF RST 0x38 (R221). -/
def execRst38 (s : State) : StepResult := .next (s.call 0x0038)

end Sys2Proof.Machine
end

