-- ==== Sys2Proof/Machine/Extension.lean ====
section
/-! DEFINITION. The 0xCB extension table and the prefix (47_cb.md R290 to R301, 46_system.md R276). One meaning per constructor. -/

namespace Sys2Proof.Machine

/-- A rotate, shift or SWAP of `r8[row]` (R291 to R298): read, write back, flags from the result. -/
def State.rotateR8 (s : State) (op : Byte → Byte × Bool) (r : R8) : State :=
  (s.r8set r (op (s.r8get r)).1).setFlags (rotateFlags (op (s.r8get r)).1 (op (s.r8get r)).2)

/-- BIT b,r (R299): nothing but flags is written. -/
def State.testBit (s : State) (b : Fin 8) (r : R8) : State :=
  s.setFlags (bitFlags (s.r8get r) b.val s.flags)

/-- RES b,r (R300). -/
def State.clearBit (s : State) (b : Fin 8) (r : R8) : State :=
  s.r8set r (s.r8get r &&& ~~~((1 : Byte) <<< b.val))

/-- SET b,r (R301). -/
def State.assertBit (s : State) (b : Fin 8) (r : R8) : State :=
  s.r8set r (s.r8get r ||| ((1 : Byte) <<< b.val))

/-- CB 00 RLC r8 (R291). -/
def execRlcR8 (r : R8) (s : State) : StepResult := .next (s.rotateR8 rlc8 r)

/-- CB 08 RRC r8 (R292). -/
def execRrcR8 (r : R8) (s : State) : StepResult := .next (s.rotateR8 rrc8 r)

/-- CB 10 RL r8 (R293). -/
def execRlR8 (r : R8) (s : State) : StepResult := .next (s.rotateR8 (rl8 s.fC) r)

/-- CB 18 RR r8 (R294). -/
def execRrR8 (r : R8) (s : State) : StepResult := .next (s.rotateR8 (rr8 s.fC) r)

/-- CB 20 SLA r8 (R295). -/
def execSlaR8 (r : R8) (s : State) : StepResult := .next (s.rotateR8 sla8 r)

/-- CB 28 SRA r8 (R296). -/
def execSraR8 (r : R8) (s : State) : StepResult := .next (s.rotateR8 sra8 r)

/-- CB 30 SWAP r8 (R297). -/
def execSwapR8 (r : R8) (s : State) : StepResult := .next (s.rotateR8 swap8 r)

/-- CB 38 SRL r8 (R298). -/
def execSrlR8 (r : R8) (s : State) : StepResult := .next (s.rotateR8 srl8 r)

/-- CB 40 BIT b,r8 (R299). -/
def execBitBR8 (b : Fin 8) (r : R8) (s : State) : StepResult := .next (s.testBit b r)

/-- CB 80 RES b,r8 (R300). -/
def execResBR8 (b : Fin 8) (r : R8) (s : State) : StepResult := .next (s.clearBit b r)

/-- CB C0 SET b,r8 (R301). -/
def execSetBR8 (b : Fin 8) (r : R8) (s : State) : StepResult := .next (s.assertBit b r)

/-- CB op2, PREFIX CB (46_system.md R276): no effect of its own; `opcode2` selects an entry of the extension table
(30_encoding.md R83, R92), whose meaning runs. The decoder gives that entry itself (log 7). -/
def execPrefixCb (op2 : Byte) (s : State) : StepResult :=
  let r := R8.ofIndex (row op2)
  match block op2 with
  | 0 =>
    match column op2 with
    | 0 => execRlcR8 r s
    | 1 => execRrcR8 r s
    | 2 => execRlR8 r s
    | 3 => execRrR8 r s
    | 4 => execSlaR8 r s
    | 5 => execSraR8 r s
    | 6 => execSwapR8 r s
    | 7 => execSrlR8 r s
  | 1 => execBitBR8 (column op2) r s
  | 2 => execResBR8 (column op2) r s
  | 3 => execSetBR8 (column op2) r s

end Sys2Proof.Machine
end

