-- ==== Sys2Proof/Machine/IncDec.lean ====
section
/-! DEFINITION. Increment, decrement and 16-bit addition (42_incdec_add16.md R170 to R175). One meaning per constructor. -/

namespace Sys2Proof.Machine

/-- INC r8 (R170). -/
def State.incR8 (s : State) (r : R8) : State :=
  (s.r8set r (s.r8get r + 1)).setFlags (incFlags (s.r8get r) s.flags)

/-- DEC r8 (R171). -/
def State.decR8 (s : State) (r : R8) : State :=
  (s.r8set r (s.r8get r - 1)).setFlags (decFlags (s.r8get r) s.flags)

/-- ADD HL,rr (R174): both operands are read before `hl` is written. -/
def State.addHl (s : State) (v : Word) : State :=
  (s.setHl (s.hl + v)).setFlags (addHlFlags s.hl v s.flags)

/-- ADD SP,e8 (R175). -/
def State.addSp (s : State) (e : Byte) : State :=
  (s.setSp (s.sp + sext16 e)).setFlags (spPlusFlags s.sp e)

/-- 03 INC BC (R172). -/
def execIncBc (s : State) : StepResult := .next (s.pairSet .bc (s.pairGet .bc + 1))

/-- 04 INC B (R170). -/
def execIncB (s : State) : StepResult := .next (s.incR8 .b)

/-- 05 DEC B (R171). -/
def execDecB (s : State) : StepResult := .next (s.decR8 .b)

/-- 09 ADD HL,BC (R174). -/
def execAddHlBc (s : State) : StepResult := .next (s.addHl (s.pairGet .bc))

/-- 0B DEC BC (R173). -/
def execDecBc (s : State) : StepResult := .next (s.pairSet .bc (s.pairGet .bc - 1))

/-- 0C INC C (R170). -/
def execIncC (s : State) : StepResult := .next (s.incR8 .c)

/-- 0D DEC C (R171). -/
def execDecC (s : State) : StepResult := .next (s.decR8 .c)

/-- 13 INC DE (R172). -/
def execIncDe (s : State) : StepResult := .next (s.pairSet .de (s.pairGet .de + 1))

/-- 14 INC D (R170). -/
def execIncD (s : State) : StepResult := .next (s.incR8 .d)

/-- 15 DEC D (R171). -/
def execDecD (s : State) : StepResult := .next (s.decR8 .d)

/-- 19 ADD HL,DE (R174). -/
def execAddHlDe (s : State) : StepResult := .next (s.addHl (s.pairGet .de))

/-- 1B DEC DE (R173). -/
def execDecDe (s : State) : StepResult := .next (s.pairSet .de (s.pairGet .de - 1))

/-- 1C INC E (R170). -/
def execIncE (s : State) : StepResult := .next (s.incR8 .e)

/-- 1D DEC E (R171). -/
def execDecE (s : State) : StepResult := .next (s.decR8 .e)

/-- 23 INC HL (R172). -/
def execIncHl (s : State) : StepResult := .next (s.pairSet .hl (s.pairGet .hl + 1))

/-- 24 INC H (R170). -/
def execIncH (s : State) : StepResult := .next (s.incR8 .h)

/-- 25 DEC H (R171). -/
def execDecH (s : State) : StepResult := .next (s.decR8 .h)

/-- 29 ADD HL,HL (R174). -/
def execAddHlHl (s : State) : StepResult := .next (s.addHl (s.pairGet .hl))

/-- 2B DEC HL (R173). -/
def execDecHl (s : State) : StepResult := .next (s.pairSet .hl (s.pairGet .hl - 1))

/-- 2C INC L (R170). -/
def execIncL (s : State) : StepResult := .next (s.incR8 .l)

/-- 2D DEC L (R171). -/
def execDecL (s : State) : StepResult := .next (s.decR8 .l)

/-- 33 INC SP (R172). -/
def execIncSp (s : State) : StepResult := .next (s.pairSet .sp (s.pairGet .sp + 1))

/-- 34 INC (HL) (R170). -/
def execIncIndHl (s : State) : StepResult := .next (s.incR8 .indHl)

/-- 35 DEC (HL) (R171). -/
def execDecIndHl (s : State) : StepResult := .next (s.decR8 .indHl)

/-- 39 ADD HL,SP (R174). -/
def execAddHlSp (s : State) : StepResult := .next (s.addHl (s.pairGet .sp))

/-- 3B DEC SP (R173). -/
def execDecSp (s : State) : StepResult := .next (s.pairSet .sp (s.pairGet .sp - 1))

/-- 3C INC A (R170). -/
def execIncA (s : State) : StepResult := .next (s.incR8 .a)

/-- 3D DEC A (R171). -/
def execDecA (s : State) : StepResult := .next (s.decR8 .a)

/-- E8 ADD SP,e8 (R175). -/
def execAddSpE8 (e : Byte) (s : State) : StepResult := .next (s.addSp e)

end Sys2Proof.Machine
end

