-- ==== Sys2Proof/Machine/Load16.lean ====
section
/-! DEFINITION. 16-bit loads and the stack (41_load16_stack.md R152 to R157). One meaning per constructor. -/

namespace Sys2Proof.Machine

/-- POP (R153): the popped word into the pair; AF drops the low four bits (10_state.md R23). -/
def State.popPair (s : State) (p : StackPair) : State := s.popped.stackPairSet p s.popValue

/-- LD HL,SP+e8 (R155). -/
def State.loadHlSpPlus (s : State) (e : Byte) : State :=
  (s.setHl (s.sp + sext16 e)).setFlags (spPlusFlags s.sp e)

/-- 01 LD BC,d16 (R154). -/
def execLdBcD16 (d : Word) (s : State) : StepResult := .next (s.pairSet .bc d)

/-- 08 LD (a16),SP (R157). -/
def execLdIndA16Sp (a : Word) (s : State) : StepResult := .next (s.memWrite16 a s.sp)

/-- 11 LD DE,d16 (R154). -/
def execLdDeD16 (d : Word) (s : State) : StepResult := .next (s.pairSet .de d)

/-- 21 LD HL,d16 (R154). -/
def execLdHlD16 (d : Word) (s : State) : StepResult := .next (s.pairSet .hl d)

/-- 31 LD SP,d16 (R154). -/
def execLdSpD16 (d : Word) (s : State) : StepResult := .next (s.pairSet .sp d)

/-- C1 POP BC (R153). -/
def execPopBc (s : State) : StepResult := .next (s.popPair .bc)

/-- C5 PUSH BC (R152). -/
def execPushBc (s : State) : StepResult := .next (s.push16 (s.stackPairGet .bc))

/-- D1 POP DE (R153). -/
def execPopDe (s : State) : StepResult := .next (s.popPair .de)

/-- D5 PUSH DE (R152). -/
def execPushDe (s : State) : StepResult := .next (s.push16 (s.stackPairGet .de))

/-- E1 POP HL (R153). -/
def execPopHl (s : State) : StepResult := .next (s.popPair .hl)

/-- E5 PUSH HL (R152). -/
def execPushHl (s : State) : StepResult := .next (s.push16 (s.stackPairGet .hl))

/-- F1 POP AF (R153). -/
def execPopAf (s : State) : StepResult := .next (s.popPair .af)

/-- F5 PUSH AF (R152). -/
def execPushAf (s : State) : StepResult := .next (s.push16 (s.stackPairGet .af))

/-- F8 LD HL,SP+e8 (R155). -/
def execLdHlSpE8 (e : Byte) (s : State) : StepResult := .next (s.loadHlSpPlus e)

/-- F9 LD SP,HL (R156). -/
def execLdSpHl (s : State) : StepResult := .next (s.setSp s.hl)

end Sys2Proof.Machine
end

