-- ==== Sys2Proof/Machine/Load8.lean ====
section
/-! DEFINITION. 8-bit loads (40_load8.md R120 to R139). No load writes a flag and none can fail (R120). One meaning per constructor. -/

namespace Sys2Proof.Machine

/-- LD between 8-bit operands (R121, R123, R124): the source is read before the destination is written. -/
def State.copyR8 (s : State) (dst src : R8) : State := s.r8set dst (s.r8get src)

/-- `A` from memory. -/
def State.loadA (s : State) (a : Word) : State := s.setA (s.memRead a)

/-- `A` to memory. -/
def State.storeA (s : State) (a : Word) : State := s.memWrite a s.a

/-- 02 LD (BC),A (R128). -/
def execLdIndBcA (s : State) : StepResult := .next (s.storeA s.bc)

/-- 06 LD B,d8 (R122). -/
def execLdBD8 (n : Byte) (s : State) : StepResult := .next (s.r8set .b n)

/-- 0A LD A,(BC) (R126). -/
def execLdAIndBc (s : State) : StepResult := .next (s.loadA s.bc)

/-- 0E LD C,d8 (R122). -/
def execLdCD8 (n : Byte) (s : State) : StepResult := .next (s.r8set .c n)

/-- 12 LD (DE),A (R129). -/
def execLdIndDeA (s : State) : StepResult := .next (s.storeA s.de)

/-- 16 LD D,d8 (R122). -/
def execLdDD8 (n : Byte) (s : State) : StepResult := .next (s.r8set .d n)

/-- 1A LD A,(DE) (R127). -/
def execLdAIndDe (s : State) : StepResult := .next (s.loadA s.de)

/-- 1E LD E,d8 (R122). -/
def execLdED8 (n : Byte) (s : State) : StepResult := .next (s.r8set .e n)

/-- 22 LD (HL+),A (R130). -/
def execLdIndHlIncA (s : State) : StepResult := .next ((s.storeA s.hl).setHl (s.hl + 1))

/-- 26 LD H,d8 (R122). -/
def execLdHD8 (n : Byte) (s : State) : StepResult := .next (s.r8set .h n)

/-- 2A LD A,(HL+) (R132). -/
def execLdAIndHlInc (s : State) : StepResult := .next ((s.loadA s.hl).setHl (s.hl + 1))

/-- 2E LD L,d8 (R122). -/
def execLdLD8 (n : Byte) (s : State) : StepResult := .next (s.r8set .l n)

/-- 32 LD (HL-),A (R131). -/
def execLdIndHlDecA (s : State) : StepResult := .next ((s.storeA s.hl).setHl (s.hl - 1))

/-- 36 LD (HL),d8 (R125). -/
def execLdIndHlD8 (n : Byte) (s : State) : StepResult := .next (s.r8set .indHl n)

/-- 3A LD A,(HL-) (R133). -/
def execLdAIndHlDec (s : State) : StepResult := .next ((s.loadA s.hl).setHl (s.hl - 1))

/-- 3E LD A,d8 (R122). -/
def execLdAD8 (n : Byte) (s : State) : StepResult := .next (s.r8set .a n)

/-- 40 LD B,B (R121). -/
def execLdBB (s : State) : StepResult := .next (s.copyR8 .b .b)

/-- 41 LD B,C (R121). -/
def execLdBC (s : State) : StepResult := .next (s.copyR8 .b .c)

/-- 42 LD B,D (R121). -/
def execLdBD (s : State) : StepResult := .next (s.copyR8 .b .d)

/-- 43 LD B,E (R121). -/
def execLdBE (s : State) : StepResult := .next (s.copyR8 .b .e)

/-- 44 LD B,H (R121). -/
def execLdBH (s : State) : StepResult := .next (s.copyR8 .b .h)

/-- 45 LD B,L (R121). -/
def execLdBL (s : State) : StepResult := .next (s.copyR8 .b .l)

/-- 46 LD B,(HL) (R123). -/
def execLdBIndHl (s : State) : StepResult := .next (s.copyR8 .b .indHl)

/-- 47 LD B,A (R121). -/
def execLdBA (s : State) : StepResult := .next (s.copyR8 .b .a)

/-- 48 LD C,B (R121). -/
def execLdCB (s : State) : StepResult := .next (s.copyR8 .c .b)

/-- 49 LD C,C (R121). -/
def execLdCC (s : State) : StepResult := .next (s.copyR8 .c .c)

/-- 4A LD C,D (R121). -/
def execLdCD (s : State) : StepResult := .next (s.copyR8 .c .d)

/-- 4B LD C,E (R121). -/
def execLdCE (s : State) : StepResult := .next (s.copyR8 .c .e)

/-- 4C LD C,H (R121). -/
def execLdCH (s : State) : StepResult := .next (s.copyR8 .c .h)

/-- 4D LD C,L (R121). -/
def execLdCL (s : State) : StepResult := .next (s.copyR8 .c .l)

/-- 4E LD C,(HL) (R123). -/
def execLdCIndHl (s : State) : StepResult := .next (s.copyR8 .c .indHl)

/-- 4F LD C,A (R121). -/
def execLdCA (s : State) : StepResult := .next (s.copyR8 .c .a)

/-- 50 LD D,B (R121). -/
def execLdDB (s : State) : StepResult := .next (s.copyR8 .d .b)

/-- 51 LD D,C (R121). -/
def execLdDC (s : State) : StepResult := .next (s.copyR8 .d .c)

/-- 52 LD D,D (R121). -/
def execLdDD (s : State) : StepResult := .next (s.copyR8 .d .d)

/-- 53 LD D,E (R121). -/
def execLdDE (s : State) : StepResult := .next (s.copyR8 .d .e)

/-- 54 LD D,H (R121). -/
def execLdDH (s : State) : StepResult := .next (s.copyR8 .d .h)

/-- 55 LD D,L (R121). -/
def execLdDL (s : State) : StepResult := .next (s.copyR8 .d .l)

/-- 56 LD D,(HL) (R123). -/
def execLdDIndHl (s : State) : StepResult := .next (s.copyR8 .d .indHl)

/-- 57 LD D,A (R121). -/
def execLdDA (s : State) : StepResult := .next (s.copyR8 .d .a)

/-- 58 LD E,B (R121). -/
def execLdEB (s : State) : StepResult := .next (s.copyR8 .e .b)

/-- 59 LD E,C (R121). -/
def execLdEC (s : State) : StepResult := .next (s.copyR8 .e .c)

/-- 5A LD E,D (R121). -/
def execLdED (s : State) : StepResult := .next (s.copyR8 .e .d)

/-- 5B LD E,E (R121). -/
def execLdEE (s : State) : StepResult := .next (s.copyR8 .e .e)

/-- 5C LD E,H (R121). -/
def execLdEH (s : State) : StepResult := .next (s.copyR8 .e .h)

/-- 5D LD E,L (R121). -/
def execLdEL (s : State) : StepResult := .next (s.copyR8 .e .l)

/-- 5E LD E,(HL) (R123). -/
def execLdEIndHl (s : State) : StepResult := .next (s.copyR8 .e .indHl)

/-- 5F LD E,A (R121). -/
def execLdEA (s : State) : StepResult := .next (s.copyR8 .e .a)

/-- 60 LD H,B (R121). -/
def execLdHB (s : State) : StepResult := .next (s.copyR8 .h .b)

/-- 61 LD H,C (R121). -/
def execLdHC (s : State) : StepResult := .next (s.copyR8 .h .c)

/-- 62 LD H,D (R121). -/
def execLdHD (s : State) : StepResult := .next (s.copyR8 .h .d)

/-- 63 LD H,E (R121). -/
def execLdHE (s : State) : StepResult := .next (s.copyR8 .h .e)

/-- 64 LD H,H (R121). -/
def execLdHH (s : State) : StepResult := .next (s.copyR8 .h .h)

/-- 65 LD H,L (R121). -/
def execLdHL (s : State) : StepResult := .next (s.copyR8 .h .l)

/-- 66 LD H,(HL) (R123). -/
def execLdHIndHl (s : State) : StepResult := .next (s.copyR8 .h .indHl)

/-- 67 LD H,A (R121). -/
def execLdHA (s : State) : StepResult := .next (s.copyR8 .h .a)

/-- 68 LD L,B (R121). -/
def execLdLB (s : State) : StepResult := .next (s.copyR8 .l .b)

/-- 69 LD L,C (R121). -/
def execLdLC (s : State) : StepResult := .next (s.copyR8 .l .c)

/-- 6A LD L,D (R121). -/
def execLdLD (s : State) : StepResult := .next (s.copyR8 .l .d)

/-- 6B LD L,E (R121). -/
def execLdLE (s : State) : StepResult := .next (s.copyR8 .l .e)

/-- 6C LD L,H (R121). -/
def execLdLH (s : State) : StepResult := .next (s.copyR8 .l .h)

/-- 6D LD L,L (R121). -/
def execLdLL (s : State) : StepResult := .next (s.copyR8 .l .l)

/-- 6E LD L,(HL) (R123). -/
def execLdLIndHl (s : State) : StepResult := .next (s.copyR8 .l .indHl)

/-- 6F LD L,A (R121). -/
def execLdLA (s : State) : StepResult := .next (s.copyR8 .l .a)

/-- 70 LD (HL),B (R124). -/
def execLdIndHlB (s : State) : StepResult := .next (s.copyR8 .indHl .b)

/-- 71 LD (HL),C (R124). -/
def execLdIndHlC (s : State) : StepResult := .next (s.copyR8 .indHl .c)

/-- 72 LD (HL),D (R124). -/
def execLdIndHlD (s : State) : StepResult := .next (s.copyR8 .indHl .d)

/-- 73 LD (HL),E (R124). -/
def execLdIndHlE (s : State) : StepResult := .next (s.copyR8 .indHl .e)

/-- 74 LD (HL),H (R124). -/
def execLdIndHlH (s : State) : StepResult := .next (s.copyR8 .indHl .h)

/-- 75 LD (HL),L (R124). -/
def execLdIndHlL (s : State) : StepResult := .next (s.copyR8 .indHl .l)

/-- 77 LD (HL),A (R124). -/
def execLdIndHlA (s : State) : StepResult := .next (s.copyR8 .indHl .a)

/-- 78 LD A,B (R121). -/
def execLdAB (s : State) : StepResult := .next (s.copyR8 .a .b)

/-- 79 LD A,C (R121). -/
def execLdAC (s : State) : StepResult := .next (s.copyR8 .a .c)

/-- 7A LD A,D (R121). -/
def execLdAD (s : State) : StepResult := .next (s.copyR8 .a .d)

/-- 7B LD A,E (R121). -/
def execLdAE (s : State) : StepResult := .next (s.copyR8 .a .e)

/-- 7C LD A,H (R121). -/
def execLdAH (s : State) : StepResult := .next (s.copyR8 .a .h)

/-- 7D LD A,L (R121). -/
def execLdAL (s : State) : StepResult := .next (s.copyR8 .a .l)

/-- 7E LD A,(HL) (R123). -/
def execLdAIndHl (s : State) : StepResult := .next (s.copyR8 .a .indHl)

/-- 7F LD A,A (R121). -/
def execLdAA (s : State) : StepResult := .next (s.copyR8 .a .a)

/-- E0 LDH (a8),A (R134). -/
def execLdhIndA8A (n : Byte) (s : State) : StepResult := .next (s.storeA (highPage n))

/-- E2 LD (C),A (R136). -/
def execLdIndCA (s : State) : StepResult := .next (s.storeA (highPage s.c))

/-- EA LD (a16),A (R138). -/
def execLdIndA16A (a : Word) (s : State) : StepResult := .next (s.storeA a)

/-- F0 LDH A,(a8) (R135). -/
def execLdhAIndA8 (n : Byte) (s : State) : StepResult := .next (s.loadA (highPage n))

/-- F2 LD A,(C) (R137). -/
def execLdAIndC (s : State) : StepResult := .next (s.loadA (highPage s.c))

/-- FA LD A,(a16) (R139). -/
def execLdAIndA16 (a : Word) (s : State) : StepResult := .next (s.loadA a)

end Sys2Proof.Machine
end

