-- ==== Sys2Proof/Machine/System.lean ====
section
/-! DEFINITION. NOP, HALT, STOP, DI, EI and the eleven invalid slots (46_system.md R270 to R277). One meaning per constructor. -/

namespace Sys2Proof.Machine

/-- HALT (R272): halted when `IME` is true, else the no-op the source permits (D14, log 4). -/
def State.haltIfEnabled (s : State) : State := if s.ime then s.setRun .halted else s

/-- 00 NOP (R270). -/
def execNop (s : State) : StepResult := .next s

/-- 10 STOP (R273). -/
def execStop (s : State) : StepResult := .next (s.setRun .stopped)

/-- 76 HALT (R272). -/
def execHalt (s : State) : StepResult := .next (s.haltIfEnabled)

/-- D3 invalid slot (R277). -/
def execInvalidD3 (s : State) : StepResult := raiseInvalidOpcode 0xD3 s

/-- DB invalid slot (R277). -/
def execInvalidDB (s : State) : StepResult := raiseInvalidOpcode 0xDB s

/-- DD invalid slot (R277). -/
def execInvalidDD (s : State) : StepResult := raiseInvalidOpcode 0xDD s

/-- E3 invalid slot (R277). -/
def execInvalidE3 (s : State) : StepResult := raiseInvalidOpcode 0xE3 s

/-- E4 invalid slot (R277). -/
def execInvalidE4 (s : State) : StepResult := raiseInvalidOpcode 0xE4 s

/-- EB invalid slot (R277). -/
def execInvalidEB (s : State) : StepResult := raiseInvalidOpcode 0xEB s

/-- EC invalid slot (R277). -/
def execInvalidEC (s : State) : StepResult := raiseInvalidOpcode 0xEC s

/-- ED invalid slot (R277). -/
def execInvalidED (s : State) : StepResult := raiseInvalidOpcode 0xED s

/-- F3 DI (R274). -/
def execDi (s : State) : StepResult := .next (s.setIme false)

/-- F4 invalid slot (R277). -/
def execInvalidF4 (s : State) : StepResult := raiseInvalidOpcode 0xF4 s

/-- FB EI (R275). -/
def execEi (s : State) : StepResult := .next (s.setIme true)

/-- FC invalid slot (R277). -/
def execInvalidFC (s : State) : StepResult := raiseInvalidOpcode 0xFC s

/-- FD invalid slot (R277). -/
def execInvalidFD (s : State) : StepResult := raiseInvalidOpcode 0xFD s

end Sys2Proof.Machine
end

