-- ==== Sys2Proof/Machine/Cycle.lean ====
section
/-! DEFINITION. The step procedure (30_encoding.md R83) with its own outcomes (00_scope.md R9): hold, or fetch, decode and
execute one instruction; and what the host sees of an outcome. -/

namespace Sys2Proof.Machine

/-- The outcome of a step that ran an instruction is that instruction's. -/
def StepOutcome.ofExec (r : StepResult) : StepOutcome :=
  match r with
  | .next s => .next s
  | .fault why => .fault why
  | .refused why => .refused why

/-- Fetch and decode at `pc`, move `pc` past the instruction's bytes, run its meaning (R83, R84, 10_state.md R28). -/
def runInstr (s : State) : StepResult := exec (s.instrAt s.pc) s.pastInstr

/-- `Step()` (R83): "if RUN != Running: return Hold", else one instruction. -/
def cycle (s : State) : StepOutcome :=
  match s.run with
  | .running => .ofExec (runInstr s)
  | .halted => .hold
  | .stopped => .hold

/-- The outcome of a step from `s` as the host's interface can say it: `Hold` leaves "the state unchanged" (R320), so
it is the state `s` again (log 3). -/
def StepOutcome.toHost (s : State) (o : StepOutcome) : StepResult :=
  match o with
  | .next t => .next t
  | .fault why => .fault why
  | .hold => .next s
  | .refused why => .refused why

end Sys2Proof.Machine
end

