-- ==== Sys2Proof/Machine/Step.lean ====
section
/-! DEFINITION. One step of the machine (30_encoding.md R83), and where the next step fetches. -/

namespace Sys2Proof.Machine

/-- `Step()`: "the only way an instruction executes" (R83), in the three outcomes of the host; `cycle` has the spec's
own, `Hold` among them (log 3). -/
def step (s : State) : Host.Outcome State Fault Refusal := (cycle s).toHost s

/-- `s` with the instruction whose bits are `w` (zero above `nbits`) stored at `pc`, where the next step fetches,
and the core running (log 9). -/
def State.withFetchWord (s : State) (nbits w : Nat) : State := s.placeInstr (w % 2 ^ nbits)

end Sys2Proof.Machine
end

