-- ==== Sys2Proof/Machine/HostOps.lean ====
section
/-! DEFINITION. The host's operations other than `PowerOn` (Machine/State.lean) and `Step` (70_reset_and_hazards.md
R368). Each acts between steps only (20_memory.md R62). Reading is by the accessors of Ops.lean and Operands.lean;
it changes nothing (10_state.md R37, 60_exceptions.md R334). -/

namespace Sys2Proof.Machine

/-- `Reset()` (R361, 10_state.md R36): the six registers to zero, memory, `IME` and `RUN` as they were (D3). -/
def State.hostReset (s : State) : State :=
  { s with af := 0, bc := 0, de := 0, hl := 0, sp := 0, pc := 0 }

/-- `MemWrite(i + k, 1, bytes[k])` for every `k`, in order (20_memory.md R61). -/
def State.loadFrom (s : State) (i : Nat) : List Byte → State
  | [] => s
  | b :: bs => (s.memWrite (BitVec.ofNat 16 i) b).loadFrom (i + 1) bs

/-- Memory after a failed load: every byte a fresh free value (R61, D21, U1; log 5). -/
def State.memoryLost (s : State) : State := { s with mem := [], memEpoch := s.memEpoch + 1 }

/-- The outcome of `Load`: done, or the non-fatal condition `Oversize` with the length (60_exceptions.md R324). -/
inductive LoadResult where
  | loaded (s : State)
  | oversize (length : Nat) (s : State)
  deriving DecidableEq, Repr

/-- `Load(bytes)` (20_memory.md R61): a copy from address 0, or `Oversize` above 65536 bytes. -/
def hostLoad (bytes : List Byte) (s : State) : LoadResult :=
  if bytes.length ≤ Config.memSize then .loaded (s.loadFrom 0 bytes)
  else .oversize bytes.length s.memoryLost

/-- `count` bytes from address `a` on, modulo 65536: the host's view of a memory range (10_state.md R37). -/
def State.readRange (s : State) (a : Word) (count : Nat) : List Byte :=
  (List.range count).map (fun k => s.memRead (a + BitVec.ofNat 16 k))

/-- The inspection boolean `halted` (10_state.md R30). -/
def State.isHalted (s : State) : Bool := decide (s.run = .halted)

/-- The inspection boolean `stopped` (10_state.md R30). -/
def State.isStopped (s : State) : Bool := decide (s.run = .stopped)

/-- What the host may do to the state between steps, beside power-on and stepping (R368): `HostMove s t` says that
one operation takes `s` to `t`. The latch and the run state are not written by the host (10_state.md R37 names
registers and memory). -/
inductive HostMove : State → State → Prop where
  | reset (s : State) : HostMove s s.hostReset
  | load (s t : State) (bytes : List Byte) (h : hostLoad bytes s = .loaded t) : HostMove s t
  | loadFailed (s t : State) (bytes : List Byte) (n : Nat) (h : hostLoad bytes s = .oversize n t) : HostMove s t
  | writeReg8 (s : State) (r : Reg8) (v : Byte) : HostMove s (s.setReg8 r v)
  | writeReg16 (s : State) (r : Reg16) (v : Word) : HostMove s (s.setReg16 r v)
  | writeByte (s : State) (a : Word) (v : Byte) : HostMove s (s.memWrite a v)

end Sys2Proof.Machine
end

