-- ==== Sys2Proof/Safety.lean ====
section
/-! DEFINITION. What counts as a good state and a safe run, and the words the statements use: which registers and
which bytes an instruction may change. -/

namespace Sys2Proof

open Sys2Proof.Machine

/-! ## The invariant and the reachable states -/

/-- The invariant of the machine: the low nibble of `F` is zero (10_state.md R22: "`F[3:0]` is always 0"), and memory
is in its canonical form, so that every listed address lies in the address space (20_memory.md R50). -/
def Machine.State.Inv (s : State) : Prop := s.f &&& 0x0F = 0 ∧ s.mem.wf = true

/-- The states of the runs of 70_reset_and_hazards.md R367: power-on with any admissible `AF_POWERON`, then host
operations (R368) and steps that return a state, one at a time. -/
inductive Reachable : State → Prop where
  | powerOn (af : Word) (h : af &&& 0x000F = 0) : Reachable (State.powerOn af)
  | step (s t : State) (hs : Reachable s) (h : step s = .next t) : Reachable t
  | host (s t : State) (hs : Reachable s) (h : HostMove s t) : Reachable t

/-- A run has ended when the next step would hold, "that is when `RUN` is `Halted` or `Stopped`" (R367). -/
def Ended (s : State) : Prop := s.run ≠ .running

/-- `n` steps from `s` go wrong when one of them faults or is refused (60_exceptions.md R337: the fault is kept for
the rest of the run). -/
def GoesWrong (n : Nat) (s : State) : Prop := ∀ t, Sys2Proof.core.run n s ≠ .next t

/-! ## Frames -/

/-- The four flags of `t` are `g`, and the other bits of `F` are as in `s` (10_state.md R22). -/
structure FlagsBecome (g : Flags) (s t : State) : Prop where
  flags : t.flags = g
  lowNibble : t.f &&& 0x0F = s.f &&& 0x0F

/-- Nothing changes from `s` to `t` but the aliases in `regs` and the bytes at the addresses in `stored`; `sp` and `pc`
are said apart. `F` counts as one of the aliases: with `.f` not in `regs`, no flag changes. -/
structure Frame (regs : List Reg8) (stored : List Word) (s t : State) : Prop where
  regs : ∀ r, r ∉ regs → t.reg8 r = s.reg8 r
  mem : ∀ a, a ∉ stored → t.memRead a = s.memRead a
  ime : t.ime = s.ime
  run : t.run = s.run

/-- The alias an 8-bit operand is, if it is one (10_state.md R24). -/
def R8.alias8 : R8 → List Reg8
  | .b => [.b]
  | .c => [.c]
  | .d => [.d]
  | .e => [.e]
  | .h => [.h]
  | .l => [.l]
  | .indHl => []
  | .a => [.a]

/-- The byte of memory an 8-bit operand is, if it is one (R24). -/
def R8.stored (r : R8) (s : State) : List Word :=
  match r with
  | .indHl => [s.hl]
  | .b | .c | .d | .e | .h | .l | .a => []

/-- The aliases of a pair of `rp` (10_state.md R21); `sp` has none. -/
def Pair.aliases8 : Pair → List Reg8
  | .bc => [.b, .c]
  | .de => [.d, .e]
  | .hl => [.h, .l]
  | .sp => []

/-- The aliases of a pair of `rp2` (R21). -/
def StackPair.aliases8 : StackPair → List Reg8
  | .bc => [.b, .c]
  | .de => [.d, .e]
  | .hl => [.h, .l]
  | .af => [.a, .f]

/-! ## What an instruction may write, from the spec's whole-machine tables -/

/-- The addresses an instruction stores one byte at (20_memory.md R55, the table of data accesses; R64 for the
addresses), computed as its meaning computes them. "every other instruction | none". -/
def storedBy (i : Instr) (s : State) : List Word :=
  match i with
  | .ldIndHlB | .ldIndHlC | .ldIndHlD | .ldIndHlE | .ldIndHlH | .ldIndHlL | .ldIndHlA | .ldIndHlD8 _ => [s.hl]
  | .incIndHl | .decIndHl => [s.hl]
  | .ldIndBcA => [s.bc]
  | .ldIndDeA => [s.de]
  | .ldIndHlIncA | .ldIndHlDecA => [s.hl]
  | .ldhIndA8A n => [highPage n]
  | .ldIndCA => [highPage s.c]
  | .ldIndA16A a => [a]
  | .ldIndA16Sp a => [a, a + 1]
  | .pushBc | .pushDe | .pushHl | .pushAf => [s.sp - 1, s.sp - 2]
  | .callA16 _ => [s.sp - 1, s.sp - 2]
  | .callNzA16 _ => if s.cond .nz then [s.sp - 1, s.sp - 2] else []
  | .callZA16 _ => if s.cond .z then [s.sp - 1, s.sp - 2] else []
  | .callNcA16 _ => if s.cond .nc then [s.sp - 1, s.sp - 2] else []
  | .callCA16 _ => if s.cond .c then [s.sp - 1, s.sp - 2] else []
  | .rst00 | .rst08 | .rst10 | .rst18 | .rst20 | .rst28 | .rst30 | .rst38 => [s.sp - 1, s.sp - 2]
  | .rlcR8 r | .rrcR8 r | .rlR8 r | .rrR8 r | .slaR8 r | .sraR8 r | .swapR8 r | .srlR8 r => r.stored s
  | .resBR8 _ r | .setBR8 _ r => r.stored s
  | .prefixCb op2 => if block op2 = 1 then [] else (R8.ofIndex (row op2)).stored s
  | _ => []

/-- The names of the four flags (10_state.md R22). -/
inductive FlagName where
  | z | n | h | c
  deriving DecidableEq, Repr

/-- A flag by name. -/
def Machine.State.flag (s : State) (g : FlagName) : Bool :=
  match g with
  | .z => s.fZ
  | .n => s.fN
  | .h => s.fH
  | .c => s.fC

/-- The flags that the instruction with these bytes may change, by the fields of its opcode: the table of
10_state.md R22, a flag marked "-" there not listed. -/
def flagsWritten (bytes : List Byte) : List FlagName :=
  match bytes with
  | [] => []
  | op :: rest =>
    if op = 0xCB then
      match rest with
      | [] => []
      | op2 :: _ =>
        if block op2 = 0 then [.z, .n, .h, .c]        -- rotates, shifts, SWAP
        else if block op2 = 1 then [.z, .n, .h]       -- BIT
        else []                                       -- RES, SET
    else if block op = 2 then [.z, .n, .h, .c]        -- the ALU group, register form
    else if block op = 3 ∧ row op = 6 then [.z, .n, .h, .c]              -- the ALU group, immediate form
    else if block op = 0 ∧ (row op = 4 ∨ row op = 5) then [.z, .n, .h]   -- INC r8, DEC r8
    else if block op = 0 ∧ row op = 1 ∧ subField op = 1 then [.n, .h, .c]  -- ADD HL,rr
    else if op = 0xE8 ∨ op = 0xF8 then [.z, .n, .h, .c]                  -- ADD SP,e8 and LD HL,SP+e8
    else if block op = 0 ∧ row op = 7 then
      if column op ≤ 3 then [.z, .n, .h, .c]          -- RLCA, RRCA, RLA, RRA
      else if column op = 4 then [.z, .h, .c]         -- DAA
      else if column op = 5 then [.n, .h]             -- CPL
      else [.n, .h, .c]                               -- SCF, CCF
    else if op = 0xF1 then [.z, .n, .h, .c]           -- POP AF
    else []

/-- The eleven invalid slots (30_encoding.md R93). -/
def invalidSlots : List Byte := [0xD3, 0xDB, 0xDD, 0xE3, 0xE4, 0xEB, 0xEC, 0xED, 0xF4, 0xFC, 0xFD]

/-- The instructions that transfer control (44_control.md R210 to R221). -/
def transfersControl (i : Instr) : Bool :=
  match i with
  | .jrE8 _ | .jrNzE8 _ | .jrZE8 _ | .jrNcE8 _ | .jrCE8 _ => true
  | .jpA16 _ | .jpNzA16 _ | .jpZA16 _ | .jpNcA16 _ | .jpCA16 _ | .jpHl => true
  | .callA16 _ | .callNzA16 _ | .callZA16 _ | .callNcA16 _ | .callCA16 _ => true
  | .ret | .reti | .retNz | .retZ | .retNc | .retC => true
  | .rst00 | .rst08 | .rst10 | .rst18 | .rst20 | .rst28 | .rst30 | .rst38 => true
  | _ => false

/-- The instructions that write `sp` (10_state.md R20, the row of `sp`): LD SP,d16, LD SP,HL, INC/DEC SP, ADD SP,e8,
every push, pop, call, return, restart. -/
def writesSp (i : Instr) : Bool :=
  match i with
  | .ldSpD16 _ | .ldSpHl | .incSp | .decSp | .addSpE8 _ => true
  | .pushBc | .pushDe | .pushHl | .pushAf | .popBc | .popDe | .popHl | .popAf => true
  | .callA16 _ | .callNzA16 _ | .callZA16 _ | .callNcA16 _ | .callCA16 _ => true
  | .ret | .reti | .retNz | .retZ | .retNc | .retC => true
  | .rst00 | .rst08 | .rst10 | .rst18 | .rst20 | .rst28 | .rst30 | .rst38 => true
  | _ => false

/-! ## The shape of the statements about instructions -/

/-- `bytes`, no more and no fewer, is the encoding of `i`: the encoder gives them and the decoder reads `i` from them
with nothing left over. -/
def EncodedAs (i : Instr) (bytes : List Byte) : Prop := encode i = bytes ∧ decode bytes = .ok i []

/-- Both forms of an ALU operation (45_alu8.md R240, R249): the register form `0b10 ooo sss` on `x = r8[row]`, `(HL)`
included, and the immediate form `0b11 ooo 110` on `x = d8`. Each runs, and `effect x s t` says what it does. -/
def AluForms (op : AluOp) (effect : Byte → State → State → Prop) : Prop :=
  (∀ (r : R8) (s : State),
    EncodedAs (aluOp op r) [BitVec.ofNat 8 (0x80 + 8 * op.index + r.index)] ∧
    ∃ t, exec (aluOp op r) s = .next t ∧ effect (s.r8get r) s t) ∧
  (∀ (n : Byte) (s : State),
    EncodedAs (aluImmOp op n) [BitVec.ofNat 8 (0xC6 + 8 * op.index), n] ∧
    ∃ t, exec (aluImmOp op n) s = .next t ∧ effect n s t)

end Sys2Proof
end

