-- ==== Sys2Proof/Certificates/Slice0/Obligations.lean ====
section
/-! DEFINITION. The statements for the provers. `exec i s` runs `i` in a state whose `pc` is already past the bytes of `i`
(10_state.md R28, log 6), so "pc unchanged" below means: the address after the instruction. `Frame`, `FlagsBecome`,
`EncodedAs`, `AluForms`, `storedBy`, `flagsWritten` and the others are defined in Safety.lean. Where a docstring names a
decision D<n>, the spec marks that point as its own choice (92_eei_decisions.md); where it names a log, it is the model's. -/

open Sys2Proof Sys2Proof.Machine

/-- One word of each family, its bits written out from the encoding its rule gives, decodes to that instruction with
its operands, and the second 0xCB of CB CB is an opcode, not a prefix. A sanity check of the decoder on fixed words.
[30_encoding.md section 4 (R88 to R92); 40_load8.md R121; 47_cb.md R301] -/
def Obligations.WrittenOutWordsDecode : Prop :=
  decode [0b01000001] = .ok .ldBC [] ∧
  decode [0b00111110, 0x05] = .ok (.ldAD8 0x05) [] ∧
  decode [0b11101010, 0x34, 0xC2] = .ok (.ldIndA16A 0xC234) [] ∧
  decode [0b11110101] = .ok .pushAf [] ∧
  decode [0b00001100] = .ok .incC [] ∧
  decode [0b00101001] = .ok .addHlHl [] ∧
  decode [0b00100111] = .ok .daa [] ∧
  decode [0b00101000, 0xFE] = .ok (.jrZE8 0xFE) [] ∧
  decode [0b11001101, 0x00, 0x20] = .ok (.callA16 0x2000) [] ∧
  decode [0b10011100] = .ok .sbcAH [] ∧
  decode [0b01110110] = .ok .halt [] ∧
  decode [0b11010011] = .ok .invalidD3 [] ∧
  decode [0xCB, 0b01111100] = .ok (.bitBR8 7 .h) [] ∧
  decode [0xCB, 0b11001011] = .ok (.setBR8 1 .e) []

/-- For every well-formed instruction i, with every operand at every value, and any bytes after it: decoding the
bytes of encode i followed by those bytes answers i and leaves exactly those bytes. Only the bare prefix term is not
well-formed (log 7). [30_encoding.md section 1 (R80, R82); 30_encoding.md section 2 (R83, R84); 30_encoding.md
section 4 (R88 to R92)] -/
def Obligations.DecodeOfEncodeIsTheInstruction : Prop :=
  ∀ (i : Instr) (rest : List Byte), i.wf = true → decode (encode i ++ rest) = .ok i rest

/-- If a list of bytes decodes to an instruction i with some bytes left over, then i is well-formed and the list is
encode i followed by those bytes. So no bit of a word is ignored and no two words are one instruction.
[30_encoding.md section 4 (R88 to R92); 30_encoding.md section 5 (R93, R94)] -/
def Obligations.EncodeOfDecodeIsTheBytes : Prop :=
  ∀ (bytes rest : List Byte) (i : Instr),
    decode bytes = .ok i rest → i.wf = true ∧ bytes = encode i ++ rest

/-- For every instruction, the length of its encoding is the one that the table of R85 (instrLength) gives its first
byte, and it is 1, 2 or 3. A list of bytes is rejected exactly when it is empty or shorter than its first byte asks
for. [30_encoding.md section 1 (R80); 30_encoding.md section 2 (R85)] -/
def Obligations.FirstByteDecidesLength : Prop :=
  (∀ (i : Instr) (b : Byte) (bs : List Byte), encode i = b :: bs →
    (encode i).length = instrLength b ∧ 1 ≤ instrLength b ∧ instrLength b ≤ 3) ∧
  (∀ (bytes : List Byte), (∃ why, decode bytes = .rejected why) ↔
    (bytes = [] ∨ ∃ b bs, bytes = b :: bs ∧ bytes.length < instrLength b))

/-- If the core is running and the bytes of memory from pc on decode to i, then step s is exec i on the state whose
pc is pc plus the length of i (modulo 65536). That pc is past the immediates before the effect runs is R28; the
model takes it so (log 6). [30_encoding.md section 2 (R83, R84); 10_state.md section 3 (R28); 20_memory.md section 3
(R59)] -/
def Obligations.StepRunsDecodedInstruction : Prop :=
  ∀ (s : State) (i : Instr) (rest : List Byte),
    s.run = .running → decode (s.readRange s.pc 3) = .ok i rest →
    step s = exec i (s.setPc (s.pc + BitVec.ofNat 16 (encode i).length))

/-- For every state the outcome of a step (cycle) is Next, Fault or Hold. It is Hold exactly when RUN is not
Running; so Next and Fault come from a running core, and step answers the same next state or fault. If RUN is not
Running then step answers the same state (the host's view of Hold is the choice of the model, log 3), so do n steps
for every n, and after the host Reset, a host write or a load, failed or not, RUN is what it was. Rests on decisions
D15 and D3 of the spec (log 10, log 11). [00_scope.md section 5 (R9); 30_encoding.md section 2 (R83);
60_exceptions.md sections 1 and 4 (R320, R335); 70_reset_and_hazards.md section 5 (R367); 92_eei_decisions.md D15,
D3] -/
def Obligations.HeldStepsChangeNothing : Prop :=
  (∀ (s : State), (∃ t, cycle s = .next t) ∨ (∃ f, cycle s = .fault f) ∨ cycle s = .hold) ∧
  (∀ (s : State), cycle s = .hold ↔ Ended s) ∧
  (∀ (s t : State), cycle s = .next t → s.run = .running ∧ step s = .next t) ∧
  (∀ (s : State) (f : Fault), cycle s = .fault f → s.run = .running ∧ step s = .fault f) ∧
  (∀ (s : State), Ended s →
    step s = .next s ∧ (∀ n, Sys2Proof.core.run n s = .next s) ∧ (∀ t, HostMove s t → t.run = s.run ∧ Ended t))

/-- Each of the eleven invalid instructions, encoded as its one opcode byte, faults with InvalidOpcode carrying that
byte and the address before pc, where pc is past the byte. A step of a running core whose byte at pc is one of the
eleven faults with that byte and the value of pc before the step. Which slots these are and that the address is that
of the opcode byte is decision D12 of the spec; that exec sees it as pc minus 1 is read from the spec by the model
(log 6). [46_system.md R277; 60_exceptions.md section 1 (R321); 30_encoding.md section 5 (R93); 92_eei_decisions.md
D12; notes/assumptions/6.md (log 6)] -/
def Obligations.InvalidSlotFaults : Prop :=
  (∀ e ∈ [(Instr.invalidD3, (0xD3 : Byte)), (.invalidDB, 0xDB), (.invalidDD, 0xDD), (.invalidE3, 0xE3),
      (.invalidE4, 0xE4), (.invalidEB, 0xEB), (.invalidEC, 0xEC), (.invalidED, 0xED), (.invalidF4, 0xF4),
      (.invalidFC, 0xFC), (.invalidFD, 0xFD)],
    EncodedAs e.1 [e.2] ∧ ∀ (s : State), exec e.1 s = .fault (.invalidOpcode e.2 (s.pc - 1))) ∧
  (∀ (s : State), s.run = .running → s.memRead s.pc ∈ invalidSlots →
    step s = .fault (.invalidOpcode (s.memRead s.pc) s.pc))

/-- If a step faults, the core was running, the byte at pc is one of the eleven invalid slots, and the fault is
InvalidOpcode with that byte and pc: no memory, alignment, arithmetic, stack or privilege fault, and NotImplemented
is raised by nothing. No step is refused. [60_exceptions.md section 1 (R321, R322, R325); 60_exceptions.md section 3
(R327); 30_encoding.md section 5 (R93, R94)] -/
def Obligations.StepFaultsOnlyOnInvalidSlots : Prop :=
  ∀ (s : State),
    (∀ f, step s = .fault f →
      s.run = .running ∧ s.memRead s.pc ∈ invalidSlots ∧ f = .invalidOpcode (s.memRead s.pc) s.pc) ∧
    (∀ r, step s ≠ .refused r)

/-- For every running state, if the byte at pc is not one of the eleven invalid slots then the step answers a next
state: every access succeeds, no operand value and no alignment stops an instruction, and a prefixed opcode never
faults. [60_exceptions.md section 1 (R325); 20_memory.md sections 1 and 2 (R51, R54); 30_encoding.md section 1
(R82), section 5 (R94)] -/
def Obligations.EveryDefinedOpcodeRuns : Prop :=
  ∀ (s : State), s.run = .running → s.memRead s.pc ∉ invalidSlots → ∃ t, step s = .next t

/-- For every state that meets the invariant (F[3:0] = 0; memory strictly rising and within the address space), if
step answers a next state then that state meets it too. [10_state.md section 1 (R22, R23); 20_memory.md section 1
(R50, R51)] -/
def Obligations.StepKeepsFlagNibbleAndMemoryForm : Prop :=
  ∀ (s t : State), s.Inv → step s = .next t → t.Inv

/-- Every state reached from a power-on state (any admissible AF_POWERON) by steps and host operations (reset, load,
failed load, register and memory writes) meets the invariant. [10_state.md section 1 (R22, R23); 20_memory.md
section 1 (R50); 70_reset_and_hazards.md section 5 (R367, R368)] -/
def Obligations.ReachableStatesKeepInvariant : Prop :=
  ∀ (s : State), Reachable s → s.Inv

/-- For every value of AF_POWERON with a zero low nibble, the power-on state meets the invariant; so does
State.reset, which takes the default value 0x8000 (log 1). [10_state.md section 6 (R35); 92_eei_decisions.md D1] -/
def Obligations.PowerOnMeetsInvariant : Prop :=
  (∀ (af : Word), af &&& 0x000F = 0 → (State.powerOn af).Inv) ∧ State.reset.Inv

/-- For every value of AF_POWERON: after power-on bc, de, hl, sp and pc are zero, af is the parameter, IME is false,
RUN is Running. State.reset is the power-on state for some admissible value of af (the value itself is the choice of
log 1). [10_state.md section 6 (R35); 70_reset_and_hazards.md section 1 (R360, R362); 92_eei_decisions.md D1, D2,
D22] -/
def Obligations.PowerOnValues : Prop :=
  (∀ (af : Word),
    (State.powerOn af).af = af ∧ (State.powerOn af).bc = 0 ∧ (State.powerOn af).de = 0 ∧
    (State.powerOn af).hl = 0 ∧ (State.powerOn af).sp = 0 ∧ (State.powerOn af).pc = 0 ∧
    (State.powerOn af).ime = false ∧ (State.powerOn af).run = .running) ∧
  (∃ af : Word, af &&& 0x000F = 0 ∧ State.reset = State.powerOn af)

/-- If exec i answers a next state: EI and RETI leave IME true, DI leaves it false, and any other instruction leaves
it as it was. Only HALT reads it: for any other instruction, two runs from states that differ in IME alone agree in
everything but IME. It is not memory mapped: IME decides no byte read, and after power-on it is false. [R29] -/
def Obligations.LatchWrittenOnlyByDiEiReti : Prop :=
  (∀ (i : Instr) (s t : State), exec i s = .next t →
    t.ime = if i = .ei ∨ i = .reti then true else if i = .di then false else s.ime) ∧
  (∀ (i : Instr) (s t : State) (b : Bool), i ≠ .halt → exec i s = .next t →
    ∃ u, exec i (s.setIme b) = .next u ∧ u.setIme t.ime = t) ∧
  (∀ (s : State) (b : Bool) (a : Word), (s.setIme b).memRead a = s.memRead a) ∧
  (∀ (s : State) (a : Word) (v : Byte), (s.memWrite a v).ime = s.ime) ∧
  (∀ (af : Word), (State.powerOn af).ime = false)

/-- If exec i answers t and the run state differs, then either i is HALT, IME was true and t is halted, or i is STOP
and t is stopped. [10_state.md section 4 (R30); 46_system.md R271, R272, R273] -/
def Obligations.RunStateWrittenOnlyByHaltAndStop : Prop :=
  ∀ (i : Instr) (s t : State), exec i s = .next t → t.run ≠ s.run →
    (i = .halt ∧ s.ime = true ∧ t.run = .halted) ∨ (i = .stop ∧ t.run = .stopped)

/-- For every instruction that answers a next state, every address that is not one of storedBy i s (the data
accesses of R55, the addresses of R64, computed on the state the instruction starts from) reads as before; for a
form that stores nothing that is every address. [20_memory.md section 2 (R55); 20_memory.md section 5 (R64)] -/
def Obligations.OnlyStoredBytesChange : Prop :=
  ∀ (i : Instr) (s t : State), exec i s = .next t →
    ∀ a, a ∉ storedBy i s → t.memRead a = s.memRead a

/-- For every instruction that answers a next state, each flag not listed for its opcode in the table of R22
(flagsWritten) is unchanged, and the other bits of F are unchanged unless the instruction is POP AF. [10_state.md
section 1 (R22, the table of flags)] -/
def Obligations.OnlyListedFlagsChange : Prop :=
  ∀ (i : Instr) (s t : State), exec i s = .next t →
    (∀ g, g ∉ flagsWritten (encode i) → t.flag g = s.flag g) ∧
    (i ≠ .popAf → t.f &&& 0x0F = s.f &&& 0x0F)

/-- For every instruction that answers a next state: unless it is a jump, call, return or restart, pc stays at the
address after the instruction; and unless it is one of the instructions R20 lists for sp, sp is unchanged.
[10_state.md section 1 (R20, the rows of sp and pc); 10_state.md section 3 (R28)] -/
def Obligations.PcAndSpWrittenOnlyByTheirInstructions : Prop :=
  ∀ (i : Instr) (s t : State), exec i s = .next t →
    (transfersControl i = false → t.pc = s.pc) ∧ (writesSp i = false → t.sp = s.sp)

/-- Every pair is the join of its two aliases, the high alias its bits 15:8. After a write of v to an alias the
alias reads v (F reads v and 0xF0), every other alias, memory, latch, run state, sp and pc are unchanged. A write of
a pair changes both its aliases and no other register. That F and AF are masked on a write is R23, decision D5 of
the spec (log 14). [10_state.md section 1 (R21); 10_state.md section 1 (R23); 92_eei_decisions.md D5] -/
def Obligations.AliasReadsBackAndSparesItsHalf : Prop :=
  (∀ (s : State), s.af = join s.a s.f ∧ s.bc = join s.b s.c ∧ s.de = join s.d s.e ∧ s.hl = join s.h s.l) ∧
  (∀ (s : State), s.a = s.af.extractLsb' 8 8 ∧ s.f = s.af.extractLsb' 0 8 ∧ s.b = s.bc.extractLsb' 8 8 ∧
    s.c = s.bc.extractLsb' 0 8 ∧ s.d = s.de.extractLsb' 8 8 ∧ s.e = s.de.extractLsb' 0 8 ∧
    s.h = s.hl.extractLsb' 8 8 ∧ s.l = s.hl.extractLsb' 0 8) ∧
  (∀ (s : State) (r : Reg8) (v : Byte),
    (s.setReg8 r v).reg8 r = (if r = .f then v &&& 0xF0 else v) ∧
    Frame [r] [] s (s.setReg8 r v) ∧ (s.setReg8 r v).sp = s.sp ∧ (s.setReg8 r v).pc = s.pc) ∧
  (∀ (s : State) (r : Reg16) (v : Word),
    (s.setReg16 r v).reg16 r = (if r = .af then v &&& 0xFFF0 else v) ∧
    (∀ q, q ≠ r → (s.setReg16 r v).reg16 q = s.reg16 q))

/-- After MemWrite(a,1,v) address a reads v and every other address reads as before, for every a and v (ROM and I/O
addresses alike); registers, latch and run state are unchanged. Two reads with no write between agree, since a read
is a function of the state and changes nothing. [R51] -/
def Obligations.MemoryReadsTheLastWrite : Prop :=
  ∀ (s : State) (a : Word) (v : Byte),
    (s.memWrite a v).memRead a = v ∧
    (∀ b, b ≠ a → (s.memWrite a v).memRead b = s.memRead b) ∧
    (∀ r, (s.memWrite a v).reg16 r = s.reg16 r) ∧ (s.memWrite a v).ime = s.ime ∧ (s.memWrite a v).run = s.run

/-- For every destination and source of the operand table other than (HL) (49 constructors ldBB to ldAA): the
instruction is encoded 0b01 ddd sss, runs, the destination reads what the source read, and every other alias, F,
memory, latch, run state and sp are unchanged; pc stays after its one byte. With source and destination the same,
nothing changes. [R121] -/
def Obligations.LoadRegisterFromRegister : Prop :=
  ∀ (dst r : R8) (s : State), dst ≠ .indHl → r ≠ .indHl →
    EncodedAs (ldOp dst r) [BitVec.ofNat 8 (0x40 + 8 * dst.index + r.index)] ∧
    ∃ t, exec (ldOp dst r) s = .next t ∧ t.r8get dst = s.r8get r ∧ Frame dst.alias8 [] s t ∧ t.sp = s.sp ∧ t.pc = s.pc

/-- For every operand of the table (ldBD8, ldCD8, ldDD8, ldED8, ldHD8, ldLD8, ldAD8, and ldIndHlD8 for (HL)) and
every byte n: the instruction is encoded 0b00 ddd 110, n; it runs; the operand reads n; nothing else changes but the
alias, or for (HL) the one byte at hl. [R122; R125] -/
def Obligations.LoadRegisterFromImmediate : Prop :=
  ∀ (dst : R8) (n : Byte) (s : State),
    EncodedAs (ldImmOp dst n) [BitVec.ofNat 8 (0x06 + 8 * dst.index), n] ∧
    ∃ t, exec (ldImmOp dst n) s = .next t ∧ t.r8get dst = n ∧ Frame dst.alias8 (dst.stored s) s t ∧ t.sp = s.sp ∧ t.pc = s.pc

/-- For every register of the table (14 constructors: ldBIndHl, ldCIndHl, ldDIndHl, ldEIndHl, ldHIndHl, ldLIndHl,
ldAIndHl, and ldIndHlB, ldIndHlC, ldIndHlD, ldIndHlE, ldIndHlH, ldIndHlL, ldIndHlA): the load is encoded 0b01 ddd
110 and gives the register the byte at hl before the instruction, also for H and L; the store is encoded 0b01 110
sss and puts the register at address hl. The frame of each is stated; ldOp of (HL) with (HL) is HALT and has its own
statement. [R123; R124] -/
def Obligations.LoadAndStoreThroughHl : Prop :=
  (∀ (dst : R8) (s : State), dst ≠ .indHl →
    EncodedAs (ldOp dst .indHl) [BitVec.ofNat 8 (0x46 + 8 * dst.index)] ∧
    ∃ t, exec (ldOp dst .indHl) s = .next t ∧ t.r8get dst = s.memRead s.hl ∧ Frame dst.alias8 [] s t ∧ t.sp = s.sp ∧ t.pc = s.pc) ∧
  (∀ (r : R8) (s : State), r ≠ .indHl →
    EncodedAs (ldOp .indHl r) [BitVec.ofNat 8 (0x70 + r.index)] ∧
    ∃ t, exec (ldOp .indHl r) s = .next t ∧ t.memRead s.hl = s.r8get r ∧ Frame [] [s.hl] s t ∧ t.sp = s.sp ∧ t.pc = s.pc)

/-- Each of ldAIndBc, ldAIndDe, ldAIndHlInc, ldAIndHlDec is encoded as its one byte and runs: A becomes the byte at
bc, de or the old hl; for the last two hl becomes hl plus or minus 1 modulo 65536; no flag, no other alias, no byte
of memory, not sp and not pc changes. [R126; R127; R132; R133] -/
def Obligations.AccumulatorLoadsThroughPairs : Prop :=
  ∀ (s : State),
    (EncodedAs .ldAIndBc [0x0A] ∧ ∃ t, exec .ldAIndBc s = .next t ∧ t.a = s.memRead s.bc ∧
      Frame [.a] [] s t ∧ t.sp = s.sp ∧ t.pc = s.pc) ∧
    (EncodedAs .ldAIndDe [0x1A] ∧ ∃ t, exec .ldAIndDe s = .next t ∧ t.a = s.memRead s.de ∧
      Frame [.a] [] s t ∧ t.sp = s.sp ∧ t.pc = s.pc) ∧
    (EncodedAs .ldAIndHlInc [0x2A] ∧ ∃ t, exec .ldAIndHlInc s = .next t ∧ t.a = s.memRead s.hl ∧
      t.hl = s.hl + 1 ∧ Frame [.a, .h, .l] [] s t ∧ t.sp = s.sp ∧ t.pc = s.pc) ∧
    (EncodedAs .ldAIndHlDec [0x3A] ∧ ∃ t, exec .ldAIndHlDec s = .next t ∧ t.a = s.memRead s.hl ∧
      t.hl = s.hl - 1 ∧ Frame [.a, .h, .l] [] s t ∧ t.sp = s.sp ∧ t.pc = s.pc)

/-- Each of ldIndBcA, ldIndDeA, ldIndHlIncA, ldIndHlDecA is encoded as its one byte and runs: A is stored at bc, de
or the old hl and every other byte is unchanged; for the last two hl becomes hl plus or minus 1 modulo 65536; no
flag and no other register changes. [R128; R129; R130; R131] -/
def Obligations.AccumulatorStoresThroughPairs : Prop :=
  ∀ (s : State),
    (EncodedAs .ldIndBcA [0x02] ∧ ∃ t, exec .ldIndBcA s = .next t ∧ t.memRead s.bc = s.a ∧
      Frame [] [s.bc] s t ∧ t.sp = s.sp ∧ t.pc = s.pc) ∧
    (EncodedAs .ldIndDeA [0x12] ∧ ∃ t, exec .ldIndDeA s = .next t ∧ t.memRead s.de = s.a ∧
      Frame [] [s.de] s t ∧ t.sp = s.sp ∧ t.pc = s.pc) ∧
    (EncodedAs .ldIndHlIncA [0x22] ∧ ∃ t, exec .ldIndHlIncA s = .next t ∧ t.memRead s.hl = s.a ∧
      t.hl = s.hl + 1 ∧ Frame [.h, .l] [s.hl] s t ∧ t.sp = s.sp ∧ t.pc = s.pc) ∧
    (EncodedAs .ldIndHlDecA [0x32] ∧ ∃ t, exec .ldIndHlDecA s = .next t ∧ t.memRead s.hl = s.a ∧
      t.hl = s.hl - 1 ∧ Frame [.h, .l] [s.hl] s t ∧ t.sp = s.sp ∧ t.pc = s.pc)

/-- For every byte n and state: ldhIndA8A stores A at the address 0xFF00 + n, ldhAIndA8 loads A from it, ldIndCA and
ldAIndC do the same with the register C for n. The address as a number is 0xFF00 + n with n unsigned. IME, flags,
every other register and every other byte are unchanged, also for 0xFFFF. [R134; R135; R136; R137] -/
def Obligations.HighPageLoadsAndStores : Prop :=
  (∀ (n : Byte), (highPage n).toNat = 0xFF00 + n.toNat) ∧
  (∀ (n : Byte) (s : State),
    (EncodedAs (.ldhIndA8A n) [0xE0, n] ∧ ∃ t, exec (.ldhIndA8A n) s = .next t ∧
      t.memRead (highPage n) = s.a ∧ Frame [] [highPage n] s t ∧ t.sp = s.sp ∧ t.pc = s.pc) ∧
    (EncodedAs (.ldhAIndA8 n) [0xF0, n] ∧ ∃ t, exec (.ldhAIndA8 n) s = .next t ∧
      t.a = s.memRead (highPage n) ∧ Frame [.a] [] s t ∧ t.sp = s.sp ∧ t.pc = s.pc) ∧
    (EncodedAs .ldIndCA [0xE2] ∧ ∃ t, exec .ldIndCA s = .next t ∧
      t.memRead (highPage s.c) = s.a ∧ Frame [] [highPage s.c] s t ∧ t.sp = s.sp ∧ t.pc = s.pc) ∧
    (EncodedAs .ldAIndC [0xF2] ∧ ∃ t, exec .ldAIndC s = .next t ∧
      t.a = s.memRead (highPage s.c) ∧ Frame [.a] [] s t ∧ t.sp = s.sp ∧ t.pc = s.pc))

/-- For every address a: ldIndA16A is EA, low byte, high byte and stores A at a; ldAIndA16 is FA, low byte, high
byte and loads A from a; nothing else changes. The spec marks both instructions as its own decision D20 and the byte
order as D7. [40_load8.md R138, R139 (general knowledge, D20); 92_eei_decisions.md D7] -/
def Obligations.AbsoluteLoadAndStore : Prop :=
  ∀ (a : Word) (s : State),
    (EncodedAs (.ldIndA16A a) [0xEA, lo8 a, hi8 a] ∧ ∃ t, exec (.ldIndA16A a) s = .next t ∧
      t.memRead a = s.a ∧ Frame [] [a] s t ∧ t.sp = s.sp ∧ t.pc = s.pc) ∧
    (EncodedAs (.ldAIndA16 a) [0xFA, lo8 a, hi8 a] ∧ ∃ t, exec (.ldAIndA16 a) s = .next t ∧
      t.a = s.memRead a ∧ Frame [.a] [] s t ∧ t.sp = s.sp ∧ t.pc = s.pc)

/-- For BC, DE, HL, AF (pushBc, pushDe, pushHl, pushAf): encoded 0b11 pp0 101; the high byte of the pair is at the
old sp minus 1 and the low byte at the old sp minus 2 (modulo 65536); sp is the old sp minus 2; no alias, no flag
and no other byte changes. For AF the bytes are A and F. [R152] -/
def Obligations.PushStoresHighByteFirst : Prop :=
  ∀ (p : StackPair) (s : State),
    EncodedAs (pushOp p) [BitVec.ofNat 8 (0xC5 + 16 * p.index)] ∧
    ∃ t, exec (pushOp p) s = .next t ∧ t.memRead (s.sp - 1) = hi8 (s.stackPairGet p) ∧
      t.memRead (s.sp - 2) = lo8 (s.stackPairGet p) ∧ t.sp = s.sp - 2 ∧
      Frame [] [s.sp - 1, s.sp - 2] s t ∧ t.pc = s.pc

/-- For BC, DE, HL, AF (popBc, popDe, popHl, popAf): encoded 0b11 pp0 001; with lo the byte at sp and hi the byte at
sp + 1, the pair becomes hi:lo, for AF masked by 0xFFF0; sp rises by 2; memory and every other alias are unchanged.
POP AF gives the flags bits 7, 6, 5, 4 of lo; the others leave F alone. The mask is decision D5 of the spec.
[41_load16_stack.md R153; 10_state.md section 1 (R23); 92_eei_decisions.md D5] -/
def Obligations.PopLoadsThePairAndMasksF : Prop :=
  ∀ (p : StackPair) (s : State),
    EncodedAs (popOp p) [BitVec.ofNat 8 (0xC1 + 16 * p.index)] ∧
    ∃ t, exec (popOp p) s = .next t ∧
      t.stackPairGet p = (if p = .af then join (s.memRead (s.sp + 1)) (s.memRead s.sp) &&& 0xFFF0
        else join (s.memRead (s.sp + 1)) (s.memRead s.sp)) ∧
      (p = .af → t.flags =
        { z := (s.memRead s.sp).getLsbD 7, n := (s.memRead s.sp).getLsbD 6,
          h := (s.memRead s.sp).getLsbD 5, c := (s.memRead s.sp).getLsbD 4 }) ∧
      t.sp = s.sp + 2 ∧ Frame p.aliases8 [] s t ∧ t.pc = s.pc

/-- For every word v and state: after Push16(v), Pop16 gives v and the sp before the push, also across the wrap. For
the instructions: POP of a pair after PUSH of the same pair restores the pair and sp (for AF in a state whose F has
a zero low nibble). [41_load16_stack.md R150, R151 (the law); 95_test_vectors.md S2] -/
def Obligations.PushThenPopRestores : Prop :=
  (∀ (s : State) (v : Word), (s.push16 v).popValue = v ∧ (s.push16 v).popped.sp = s.sp) ∧
  (∀ (p : StackPair) (s t : State), s.f &&& 0x0F = 0 → exec (pushOp p) s = .next t →
    ∃ u, exec (popOp p) t = .next u ∧ (∀ r, u.reg16 r = s.reg16 r))

/-- For BC, DE, HL, SP (ldBcD16, ldDeD16, ldHlD16, ldSpD16) and every word d: encoded 0b00 pp0 001, low byte, high
byte; it runs; the pair is d; nothing else changes and sp only when it is the pair. [41_load16_stack.md R154;
92_eei_decisions.md D7] -/
def Obligations.LoadPairFromImmediate : Prop :=
  ∀ (p : Pair) (d : Word) (s : State),
    EncodedAs (ldPairOp p d) [BitVec.ofNat 8 (0x01 + 16 * p.index), lo8 d, hi8 d] ∧
    ∃ t, exec (ldPairOp p d) s = .next t ∧ t.pairGet p = d ∧ Frame p.aliases8 [] s t ∧
      (p ≠ .sp → t.sp = s.sp) ∧ t.pc = s.pc

/-- For every byte e: the result is (sp + e) modulo 65536 with e in two's complement; Z and N are 0, H and C the
carries out of bits 3 and 7 of the unsigned sum of the low byte of sp and e. LD HL,SP+e8 puts it in hl and keeps sp;
ADD SP,e8 puts it in sp and keeps hl. Both are decision D20 of the spec. [41_load16_stack.md R155 (general
knowledge, D20); 42_incdec_add16.md R175 (general knowledge, D20)] -/
def Obligations.SignedOffsetFromSp : Prop :=
  ∀ (e : Byte) (s : State),
    (EncodedAs (.ldHlSpE8 e) [0xF8, e] ∧ ∃ t, exec (.ldHlSpE8 e) s = .next t ∧
      (t.hl.toNat : Int) = ((s.sp.toNat : Int) + e.toInt) % 65536 ∧
      FlagsBecome
        { z := false, n := false, h := decide (s.sp.toNat % 16 + e.toNat % 16 > 15),
          c := decide (s.sp.toNat % 256 + e.toNat > 255) } s t ∧
      Frame [.h, .l, .f] [] s t ∧ t.sp = s.sp ∧ t.pc = s.pc) ∧
    (EncodedAs (.addSpE8 e) [0xE8, e] ∧ ∃ t, exec (.addSpE8 e) s = .next t ∧
      (t.sp.toNat : Int) = ((s.sp.toNat : Int) + e.toInt) % 65536 ∧
      FlagsBecome
        { z := false, n := false, h := decide (s.sp.toNat % 16 + e.toNat % 16 > 15),
          c := decide (s.sp.toNat % 256 + e.toNat > 255) } s t ∧
      Frame [.f] [] s t ∧ t.pc = s.pc)

/-- ldSpHl (F9) makes sp the value of hl. ldIndA16Sp (08, low, high) stores the low byte of sp at a16 and the high
byte at a16 + 1 modulo 65536, sp unchanged. No flag and nothing else changes. D20 for the first, D7 and D8 for the
byte orders. [41_load16_stack.md R156 (general knowledge, D20); 41_load16_stack.md R157; 92_eei_decisions.md D7, D8]
-/
def Obligations.StackPointerMoves : Prop :=
  (∀ (s : State), EncodedAs .ldSpHl [0xF9] ∧ ∃ t, exec .ldSpHl s = .next t ∧ t.sp = s.hl ∧
    Frame [] [] s t ∧ t.pc = s.pc) ∧
  (∀ (a : Word) (s : State), EncodedAs (.ldIndA16Sp a) [0x08, lo8 a, hi8 a] ∧
    ∃ t, exec (.ldIndA16Sp a) s = .next t ∧ t.memRead a = lo8 s.sp ∧ t.memRead (a + 1) = hi8 s.sp ∧
      Frame [] [a, a + 1] s t ∧ t.sp = s.sp ∧ t.pc = s.pc)

/-- For each of the eight operands (incB, incC, incD, incE, incH, incL, incIndHl, incA and decB, decC, decD, decE,
decH, decL, decIndHl, decA): encoded 0b00 ddd 100 and 0b00 ddd 101; the operand becomes old + 1 or old - 1 modulo
256; Z = result is 0; N = 0 for INC, 1 for DEC; H = low nibble of old was 0xF for INC, 0 for DEC; C unchanged;
nothing else changes but the alias, or for (HL) the byte at hl. The formulas of N and H are decision D19.
[42_incdec_add16.md R170, R171; 92_eei_decisions.md D19] -/
def Obligations.IncrementAndDecrementByte : Prop :=
  ∀ (r : R8) (s : State),
    (EncodedAs (incOp r) [BitVec.ofNat 8 (0x04 + 8 * r.index)] ∧
      ∃ t, exec (incOp r) s = .next t ∧ (t.r8get r).toNat = ((s.r8get r).toNat + 1) % 256 ∧
        FlagsBecome
        { z := decide (((s.r8get r).toNat + 1) % 256 = 0), n := false,
          h := decide ((s.r8get r).toNat % 16 = 15), c := s.fC } s t ∧
        Frame (.f :: r.alias8) (r.stored s) s t ∧ t.sp = s.sp ∧ t.pc = s.pc) ∧
    (EncodedAs (decOp r) [BitVec.ofNat 8 (0x05 + 8 * r.index)] ∧
      ∃ t, exec (decOp r) s = .next t ∧ ((t.r8get r).toNat : Int) = (((s.r8get r).toNat : Int) - 1) % 256 ∧
        FlagsBecome
        { z := decide ((s.r8get r).toNat = 1), n := true,
          h := decide ((s.r8get r).toNat % 16 = 0), c := s.fC } s t ∧
        Frame (.f :: r.alias8) (r.stored s) s t ∧ t.sp = s.sp ∧ t.pc = s.pc)

/-- For BC, DE, HL, SP (incBc, incDe, incHl, incSp, decBc, decDe, decHl, decSp): encoded 0b00 pp0 011 and 0b00 pp1
011; the pair becomes itself plus or minus 1 modulo 65536; F, every other alias, memory and, unless it is the pair,
sp are unchanged. [R172; R173] -/
def Obligations.IncrementAndDecrementPair : Prop :=
  ∀ (p : Pair) (s : State),
    (EncodedAs (incPairOp p) [BitVec.ofNat 8 (0x03 + 16 * p.index)] ∧
      ∃ t, exec (incPairOp p) s = .next t ∧ (t.pairGet p).toNat = ((s.pairGet p).toNat + 1) % 65536 ∧
        Frame p.aliases8 [] s t ∧ (p ≠ .sp → t.sp = s.sp) ∧ t.pc = s.pc) ∧
    (EncodedAs (decPairOp p) [BitVec.ofNat 8 (0x0B + 16 * p.index)] ∧
      ∃ t, exec (decPairOp p) s = .next t ∧
        ((t.pairGet p).toNat : Int) = (((s.pairGet p).toNat : Int) - 1) % 65536 ∧
        Frame p.aliases8 [] s t ∧ (p ≠ .sp → t.sp = s.sp) ∧ t.pc = s.pc)

/-- For BC, DE, HL, SP (addHlBc, addHlDe, addHlHl, addHlSp): encoded 0b00 pp1 001; hl becomes the sum of the old hl
and the pair modulo 65536; Z unchanged, N = 0, H and C the carries out of bit 11 and bit 15; nothing else changes.
The spec marks the instruction as its decision D20. [42_incdec_add16.md R174 (general knowledge, D20)] -/
def Obligations.AddPairToHl : Prop :=
  ∀ (p : Pair) (s : State),
    EncodedAs (addHlOp p) [BitVec.ofNat 8 (0x09 + 16 * p.index)] ∧
    ∃ t, exec (addHlOp p) s = .next t ∧ t.hl.toNat = (s.hl.toNat + (s.pairGet p).toNat) % 65536 ∧
      FlagsBecome
        { z := s.fZ, n := false, h := decide (s.hl.toNat % 4096 + (s.pairGet p).toNat % 4096 > 4095),
          c := decide (s.hl.toNat + (s.pairGet p).toNat > 65535) } s t ∧
      Frame [.h, .l, .f] [] s t ∧ t.sp = s.sp ∧ t.pc = s.pc

/-- For every state: RLCA gives A = 2a mod 256 plus the old bit 7; RRCA a/2 plus 128 times the old bit 0; RLA 2a mod
256 plus the old carry; RRA a/2 plus 128 times the old carry. The carry becomes the bit that left (bit 7 or bit 0);
Z, N and H are 0 even for a zero result; nothing else changes. [R190; R191; R192; R193] -/
def Obligations.AccumulatorRotates : Prop :=
  ∀ (s : State),
    (EncodedAs .rlca [0x07] ∧ ∃ t, exec .rlca s = .next t ∧
      t.a.toNat = (2 * s.a.toNat) % 256 + s.a.toNat / 128 ∧
      FlagsBecome { z := false, n := false, h := false, c := s.a.getLsbD 7 } s t ∧ Frame [.a, .f] [] s t ∧ t.sp = s.sp ∧ t.pc = s.pc) ∧
    (EncodedAs .rrca [0x0F] ∧ ∃ t, exec .rrca s = .next t ∧
      t.a.toNat = s.a.toNat / 2 + 128 * (s.a.toNat % 2) ∧
      FlagsBecome { z := false, n := false, h := false, c := s.a.getLsbD 0 } s t ∧ Frame [.a, .f] [] s t ∧ t.sp = s.sp ∧ t.pc = s.pc) ∧
    (EncodedAs .rla [0x17] ∧ ∃ t, exec .rla s = .next t ∧
      t.a.toNat = (2 * s.a.toNat) % 256 + s.fC.toNat ∧
      FlagsBecome { z := false, n := false, h := false, c := s.a.getLsbD 7 } s t ∧ Frame [.a, .f] [] s t ∧ t.sp = s.sp ∧ t.pc = s.pc) ∧
    (EncodedAs .rra [0x1F] ∧ ∃ t, exec .rra s = .next t ∧
      t.a.toNat = s.a.toNat / 2 + 128 * s.fC.toNat ∧
      FlagsBecome { z := false, n := false, h := false, c := s.a.getLsbD 0 } s t ∧ Frame [.a, .f] [] s t ∧ t.sp = s.sp ∧ t.pc = s.pc)

/-- For every state: with N = 1 the adjustment 6 (if H) plus 0x60 (if C) is subtracted and the carry kept; with N =
0 the adjustment 6 (if H or low nibble above 9) plus 0x60 (if C or A above 0x99) is added and the carry set in the
latter case. A is the result modulo 256, Z from the new A, H cleared, N kept; nothing else changes. [R194] -/
def Obligations.DecimalAdjust : Prop :=
  EncodedAs .daa [0x27] ∧
  ∀ (s : State), ∃ t, exec .daa s = .next t ∧
    (s.fN = true →
      (t.a.toNat : Int) = ((s.a.toNat : Int) - ((if s.fH then 6 else 0) + (if s.fC then 0x60 else 0))) % 256 ∧
      t.fC = s.fC) ∧
    (s.fN = false →
      t.a.toNat = (s.a.toNat + ((if s.fH = true ∨ s.a.toNat % 16 > 9 then 6 else 0) +
        (if s.fC = true ∨ s.a.toNat > 0x99 then 0x60 else 0))) % 256 ∧
      t.fC = (s.fC || decide (s.a.toNat > 0x99))) ∧
    FlagsBecome { z := decide (t.a.toNat = 0), n := s.fN, h := false, c := t.fC } s t ∧
    Frame [.a, .f] [] s t ∧ t.sp = s.sp ∧ t.pc = s.pc

/-- For every state: CPL makes A = 255 - a, N = H = 1, Z and C kept; SCF makes N = H = 0, C = 1, Z kept; CCF makes N
= H = 0, C inverted, Z kept. A is unchanged by SCF and CCF; nothing else changes. [R195; R196; R197] -/
def Obligations.ComplementAndCarryOperations : Prop :=
  ∀ (s : State),
    (EncodedAs .cpl [0x2F] ∧ ∃ t, exec .cpl s = .next t ∧ t.a.toNat = 255 - s.a.toNat ∧
      FlagsBecome { z := s.fZ, n := true, h := true, c := s.fC } s t ∧ Frame [.a, .f] [] s t ∧ t.sp = s.sp ∧ t.pc = s.pc) ∧
    (EncodedAs .scf [0x37] ∧ ∃ t, exec .scf s = .next t ∧
      FlagsBecome { z := s.fZ, n := false, h := false, c := true } s t ∧ Frame [.f] [] s t ∧ t.sp = s.sp ∧ t.pc = s.pc) ∧
    (EncodedAs .ccf [0x3F] ∧ ∃ t, exec .ccf s = .next t ∧
      FlagsBecome { z := s.fZ, n := false, h := false, c := !s.fC } s t ∧ Frame [.f] [] s t ∧ t.sp = s.sp ∧ t.pc = s.pc)

/-- For each operand x, the eight register forms (addAB, addAC, addAD, addAE, addAH, addAL, addAIndHl, addAA) and
the immediate form addAD8: A = (a + x) mod 256, Z = that is 0, N = 0, H and C the carries out of bit 3 and bit 7;
nothing else changes, memory included. Z and N are decision D19 of the spec. [45_alu8.md R240, R249; 45_alu8.md
R241; 92_eei_decisions.md D19] -/
def Obligations.AddToAccumulator : Prop :=
  AluForms .add fun x s t =>
    t.a.toNat = (s.a.toNat + x.toNat) % 256 ∧
    FlagsBecome
        { z := decide ((s.a.toNat + x.toNat) % 256 = 0), n := false,
          h := decide (s.a.toNat % 16 + x.toNat % 16 > 15), c := decide (s.a.toNat + x.toNat > 255) } s t ∧
    Frame [.a, .f] [] s t ∧ t.sp = s.sp ∧ t.pc = s.pc

/-- For each operand x, the eight register forms (adcAB, adcAC, adcAD, adcAE, adcAH, adcAL, adcAIndHl, adcAA) and
the immediate form adcAD8: with c the old carry, A = (a + x + c) mod 256, Z = that is 0, N = 0, H and C the carries
of the three-term sums; nothing else changes. Z and N are decision D19 of the spec. [45_alu8.md R240, R249;
45_alu8.md R242; 92_eei_decisions.md D19] -/
def Obligations.AddWithCarryToAccumulator : Prop :=
  AluForms .adc fun x s t =>
    t.a.toNat = (s.a.toNat + x.toNat + s.fC.toNat) % 256 ∧
    FlagsBecome
        { z := decide ((s.a.toNat + x.toNat + s.fC.toNat) % 256 = 0), n := false,
          h := decide (s.a.toNat % 16 + x.toNat % 16 + s.fC.toNat > 15),
          c := decide (s.a.toNat + x.toNat + s.fC.toNat > 255) } s t ∧
    Frame [.a, .f] [] s t ∧ t.sp = s.sp ∧ t.pc = s.pc

/-- For each operand x, the eight register forms and the immediate form (subB, subC, subD, subE, subH, subL,
subIndHl, subA, subD8; cpB, cpC, cpD, cpE, cpH, cpL, cpIndHl, cpA, cpD8): Z = (a = x), N = 1, H = low nibble of a
below that of x, C = a below x; SUB makes A = (a - x) mod 256, CP leaves A; nothing else changes. Z, N and the
borrow reading are decision D19 of the spec. [45_alu8.md R240, R249; 45_alu8.md R243, R248; 92_eei_decisions.md D19]
-/
def Obligations.SubtractAndCompare : Prop :=
  (AluForms .sub fun x s t =>
    (t.a.toNat : Int) = ((s.a.toNat : Int) - x.toNat) % 256 ∧
    FlagsBecome
        { z := decide (s.a = x), n := true, h := decide (s.a.toNat % 16 < x.toNat % 16),
          c := decide (s.a.toNat < x.toNat) } s t ∧
    Frame [.a, .f] [] s t ∧ t.sp = s.sp ∧ t.pc = s.pc) ∧
  (AluForms .cp fun x s t =>
    FlagsBecome
        { z := decide (s.a = x), n := true, h := decide (s.a.toNat % 16 < x.toNat % 16),
          c := decide (s.a.toNat < x.toNat) } s t ∧
    Frame [.f] [] s t ∧ t.sp = s.sp ∧ t.pc = s.pc)

/-- For each operand x, the eight register forms (sbcAB, sbcAC, sbcAD, sbcAE, sbcAH, sbcAL, sbcAIndHl, sbcAA) and
the immediate form sbcAD8: with c the old carry, A = (a - x - c) mod 256, Z = that is 0, N = 1, H and C by
comparisons of integers with x + c; nothing else changes. Z and N are decision D19 of the spec. [45_alu8.md R240,
R249; 45_alu8.md R244; 92_eei_decisions.md D19] -/
def Obligations.SubtractWithCarryFromAccumulator : Prop :=
  AluForms .sbc fun x s t =>
    (t.a.toNat : Int) = ((s.a.toNat : Int) - x.toNat - s.fC.toNat) % 256 ∧
    FlagsBecome
        { z := decide (((s.a.toNat : Int) - x.toNat - s.fC.toNat) % 256 = 0), n := true,
          h := decide (s.a.toNat % 16 < x.toNat % 16 + s.fC.toNat),
          c := decide (s.a.toNat < x.toNat + s.fC.toNat) } s t ∧
    Frame [.a, .f] [] s t ∧ t.sp = s.sp ∧ t.pc = s.pc

/-- For each operand x, in the nine forms of each operation (andB, andC, andD, andE, andH, andL, andIndHl, andA,
andD8; xorB, xorC, xorD, xorE, xorH, xorL, xorIndHl, xorA, xorD8; orB, orC, orD, orE, orH, orL, orIndHl, orA, orD8):
each bit of A is the and, exclusive or, or of the bits; Z = the result is 0, N = 0, C = 0, H = 1 for AND and 0 for
the others; nothing else changes. Z and N are decision D19. [45_alu8.md R240, R249; 45_alu8.md R245, R246, R247;
92_eei_decisions.md D19] -/
def Obligations.LogicOnAccumulator : Prop :=
  (AluForms .and fun x s t =>
    (∀ k, t.a.getLsbD k = (s.a.getLsbD k && x.getLsbD k)) ∧
    FlagsBecome { z := decide (t.a = 0), n := false, h := true, c := false } s t ∧ Frame [.a, .f] [] s t ∧ t.sp = s.sp ∧ t.pc = s.pc) ∧
  (AluForms .xor fun x s t =>
    (∀ k, t.a.getLsbD k = (s.a.getLsbD k ^^ x.getLsbD k)) ∧
    FlagsBecome { z := decide (t.a = 0), n := false, h := false, c := false } s t ∧ Frame [.a, .f] [] s t ∧ t.sp = s.sp ∧ t.pc = s.pc) ∧
  (AluForms .or fun x s t =>
    (∀ k, t.a.getLsbD k = (s.a.getLsbD k || x.getLsbD k)) ∧
    FlagsBecome { z := decide (t.a = 0), n := false, h := false, c := false } s t ∧ Frame [.a, .f] [] s t ∧ t.sp = s.sp ∧ t.pc = s.pc)

/-- For every byte e: jrE8 (18, e) always, and the four conditional forms jrNzE8, jrZE8, jrNcE8, jrCE8 (0b001 cc
000, e) when the condition holds, make pc the sum of the address after the instruction and e in two's complement
modulo 65536; a condition that fails leaves pc there. Nothing else changes. [R211; R212] -/
def Obligations.RelativeJumps : Prop :=
  ∀ (e : Byte) (s : State),
    (EncodedAs (.jrE8 e) [0x18, e] ∧ ∃ t, exec (.jrE8 e) s = .next t ∧
      (t.pc.toNat : Int) = ((s.pc.toNat : Int) + e.toInt) % 65536 ∧ Frame [] [] s t ∧ t.sp = s.sp) ∧
    (∀ cc : Cond, EncodedAs (jrOp cc e) [BitVec.ofNat 8 (0x20 + 8 * cc.index), e] ∧
      ∃ t, exec (jrOp cc e) s = .next t ∧
        (s.cond cc = true → (t.pc.toNat : Int) = ((s.pc.toNat : Int) + e.toInt) % 65536) ∧
        (s.cond cc = false → t.pc = s.pc) ∧ Frame [] [] s t ∧ t.sp = s.sp)

/-- jpA16 (C3, low, high) always, jpNzA16, jpZA16, jpNcA16, jpCA16 (0b110 cc 010, low, high) when the condition
holds, make pc the target; jpHl (E9) makes pc the value of hl. A condition that fails leaves pc after the
instruction. The byte order is decision D7 of the spec. [44_control.md R213, R214, R215; 92_eei_decisions.md D7] -/
def Obligations.AbsoluteJumps : Prop :=
  (∀ (a : Word) (s : State),
    (EncodedAs (.jpA16 a) [0xC3, lo8 a, hi8 a] ∧ ∃ t, exec (.jpA16 a) s = .next t ∧
      t.pc = a ∧ Frame [] [] s t ∧ t.sp = s.sp) ∧
    (∀ cc : Cond, EncodedAs (jpOp cc a) [BitVec.ofNat 8 (0xC2 + 8 * cc.index), lo8 a, hi8 a] ∧
      ∃ t, exec (jpOp cc a) s = .next t ∧ t.pc = (if s.cond cc then a else s.pc) ∧
        Frame [] [] s t ∧ t.sp = s.sp)) ∧
  (∀ (s : State), EncodedAs .jpHl [0xE9] ∧ ∃ t, exec .jpHl s = .next t ∧ t.pc = s.hl ∧
    Frame [] [] s t ∧ t.sp = s.sp)

/-- NZ holds when fZ is 0, Z when it is 1, NC when fC is 0, C when it is 1; the indexes are 0 to 3 in that order,
and in every conditional form they stand in opcode bits 4:3. Evaluating one is a function of the flags alone and
writes nothing. That bits 4:3 hold the index is conflict C3 and decision D10 of the spec. [10_state.md section 2
(R26); 30_encoding.md section 3 (R87); 90_conflicts.md C3; 92_eei_decisions.md D10] -/
def Obligations.ConditionTable : Prop :=
  (∀ (s : State), (s.cond .nz = !s.fZ) ∧ (s.cond .z = s.fZ) ∧ (s.cond .nc = !s.fC) ∧ (s.cond .c = s.fC)) ∧
  (Cond.nz.index = 0 ∧ Cond.z.index = 1 ∧ Cond.nc.index = 2 ∧ Cond.c.index = 3) ∧
  (∀ (s t : State) (cc : Cond), t.flags = s.flags → t.cond cc = s.cond cc) ∧
  (∀ (cc : Cond) (e : Byte) (a : Word) (b : Byte),
    (encode (jrOp cc e)).head? = some b ∨ (encode (jpOp cc a)).head? = some b ∨
      (encode (callOp cc a)).head? = some b ∨ (encode (retOp cc)).head? = some b →
    b.toNat / 8 % 4 = cc.index)

/-- In a running state, if the bytes at pc decode to JR cc, JP cc, CALL cc or RET cc and the condition fails, the
step changes pc to pc plus the full length of the instruction (2, 3, 3 or 1) and nothing else: sp and memory are
untouched. [44_control.md R210 (e); 30_encoding.md section 2 (R83); 95_test_vectors.md S13] -/
def Obligations.ConditionalsConsumeImmediates : Prop :=
  ∀ (s : State) (cc : Cond) (e : Byte) (a : Word) (rest : List Byte), s.run = .running → s.cond cc = false →
    (decode (s.readRange s.pc 3) = .ok (jrOp cc e) rest → step s = .next (s.setPc (s.pc + 2))) ∧
    (decode (s.readRange s.pc 3) = .ok (jpOp cc a) rest → step s = .next (s.setPc (s.pc + 3))) ∧
    (decode (s.readRange s.pc 3) = .ok (callOp cc a) rest → step s = .next (s.setPc (s.pc + 3))) ∧
    (decode (s.readRange s.pc 3) = .ok (retOp cc) rest → step s = .next (s.setPc (s.pc + 1)))

/-- callA16 (CD, low, high) always, and callNzA16, callZA16, callNcA16, callCA16 (0b110 cc 100, low, high) when the
condition holds, put the high byte of pc (the address after the instruction) at sp - 1, the low byte at sp - 2,
lower sp by 2 and make pc the target; no other byte, no flag, no alias changes. A condition that fails leaves sp,
memory and pc as they are. The byte order of the immediate is decision D7 of the spec (R84, log 15). [44_control.md
R216, R217; 30_encoding.md section 2 (R84); 92_eei_decisions.md D7] -/
def Obligations.CallsPushTheReturnAddress : Prop :=
  ∀ (a : Word) (s : State),
    (EncodedAs (.callA16 a) [0xCD, lo8 a, hi8 a] ∧ ∃ t, exec (.callA16 a) s = .next t ∧ t.pc = a ∧
      t.memRead (s.sp - 1) = hi8 s.pc ∧ t.memRead (s.sp - 2) = lo8 s.pc ∧ t.sp = s.sp - 2 ∧
      Frame [] [s.sp - 1, s.sp - 2] s t) ∧
    (∀ cc : Cond, EncodedAs (callOp cc a) [BitVec.ofNat 8 (0xC4 + 8 * cc.index), lo8 a, hi8 a] ∧
      ∃ t, exec (callOp cc a) s = .next t ∧
        (s.cond cc = true → t.pc = a ∧ t.memRead (s.sp - 1) = hi8 s.pc ∧ t.memRead (s.sp - 2) = lo8 s.pc ∧
          t.sp = s.sp - 2 ∧ Frame [] [s.sp - 1, s.sp - 2] s t) ∧
        (s.cond cc = false → t = s))

/-- ret (C9) and reti (D9) always, and retNz, retZ, retNc, retC (0b110 cc 000) when the condition holds, make pc the
word at sp (low byte at sp, high byte at sp + 1) and raise sp by 2; memory, flags and aliases are unchanged; reti
sets IME, the others leave it. A condition that fails changes nothing. [R218; R219; R220] -/
def Obligations.ReturnsPopTheAddress : Prop :=
  ∀ (s : State),
    (EncodedAs .ret [0xC9] ∧ ∃ t, exec .ret s = .next t ∧
      t.pc = join (s.memRead (s.sp + 1)) (s.memRead s.sp) ∧ t.sp = s.sp + 2 ∧ Frame [] [] s t) ∧
    (EncodedAs .reti [0xD9] ∧ ∃ t, exec .reti s = .next t ∧
      t.pc = join (s.memRead (s.sp + 1)) (s.memRead s.sp) ∧ t.sp = s.sp + 2 ∧ t.ime = true ∧
      Frame [] [] (s.setIme true) t) ∧
    (∀ cc : Cond, EncodedAs (retOp cc) [BitVec.ofNat 8 (0xC0 + 8 * cc.index)] ∧
      ∃ t, exec (retOp cc) s = .next t ∧
        (s.cond cc = true → t.pc = join (s.memRead (s.sp + 1)) (s.memRead s.sp) ∧ t.sp = s.sp + 2 ∧
          Frame [] [] s t) ∧
        (s.cond cc = false → t = s))

/-- For each column k from 0 to 7 (rst00, rst08, rst10, rst18, rst20, rst28, rst30, rst38): encoded 0b11 kkk 111;
the high byte of pc goes to sp - 1, the low byte to sp - 2, sp falls by 2, pc becomes 8 k; nothing else changes.
That the column and not the row gives the target is conflict C1 and decision D11 of the spec. [44_control.md R221;
90_conflicts.md C1; 92_eei_decisions.md D11] -/
def Obligations.RestartsCallFixedAddresses : Prop :=
  ∀ (k : Fin 8) (s : State),
    EncodedAs (rstOp k) [BitVec.ofNat 8 (0xC7 + 8 * k.val)] ∧
    ∃ t, exec (rstOp k) s = .next t ∧ t.pc.toNat = 8 * k.val ∧
      t.memRead (s.sp - 1) = hi8 s.pc ∧ t.memRead (s.sp - 2) = lo8 s.pc ∧ t.sp = s.sp - 2 ∧
      Frame [] [s.sp - 1, s.sp - 2] s t

/-- nop (00) leaves the state as it is (pc is past it); stop (10, one byte: D16) makes RUN Stopped; di (F3) makes
IME false and ei (FB) true at once (D17); nothing else changes. NOP itself is decision D20 of the spec.
[46_system.md R270, R273, R274, R275; 92_eei_decisions.md D16, D17, D20] -/
def Obligations.NopStopDiEi : Prop :=
  ∀ (s : State),
    (EncodedAs .nop [0x00] ∧ exec .nop s = .next s) ∧
    (EncodedAs .stop [0x10] ∧ exec .stop s = .next { s with run := .stopped }) ∧
    (EncodedAs .di [0xF3] ∧ exec .di s = .next { s with ime := false }) ∧
    (EncodedAs .ei [0xFB] ∧ exec .ei s = .next { s with ime := true })

/-- halt (76) makes RUN Halted when IME is true and leaves the whole state as it is when IME is false (pc is past it
in both cases). The second case is the no-op the source permits, decision D14 of the spec (log 4). [46_system.md
R272; 92_eei_decisions.md D14; 93_implementation_defined.md U7] -/
def Obligations.HaltDependsOnTheLatch : Prop :=
  ∀ (s : State), EncodedAs .halt [0x76] ∧
    (s.ime = true → exec .halt s = .next { s with run := .halted }) ∧ (s.ime = false → exec .halt s = .next s)

/-- For every operand of the table, (HL) included: rlcR8, rrcR8, rlR8 and rrR8, encoded CB and 0x00, 0x08, 0x10,
0x18 plus the operand, give the rotated value (through the old carry for rlR8 and rrR8), Z = result is 0, N = H = 0,
C the bit that left; only the alias, or the byte at hl, and F change. The spec marks the table as its decision D20.
[47_cb.md R290, R291, R292, R293, R294 (general knowledge, D20)] -/
def Obligations.ExtensionRotates : Prop :=
  ∀ (r : R8) (s : State),
    (EncodedAs (.rlcR8 r) [0xCB, BitVec.ofNat 8 (0x00 + r.index)] ∧ ∃ t, exec (.rlcR8 r) s = .next t ∧
      (t.r8get r).toNat = (2 * (s.r8get r).toNat) % 256 + (s.r8get r).toNat / 128 ∧
      FlagsBecome { z := decide (t.r8get r = 0), n := false, h := false, c := (s.r8get r).getLsbD 7 } s t ∧
      Frame (.f :: r.alias8) (r.stored s) s t ∧ t.sp = s.sp ∧ t.pc = s.pc) ∧
    (EncodedAs (.rrcR8 r) [0xCB, BitVec.ofNat 8 (0x08 + r.index)] ∧ ∃ t, exec (.rrcR8 r) s = .next t ∧
      (t.r8get r).toNat = (s.r8get r).toNat / 2 + 128 * ((s.r8get r).toNat % 2) ∧
      FlagsBecome { z := decide (t.r8get r = 0), n := false, h := false, c := (s.r8get r).getLsbD 0 } s t ∧
      Frame (.f :: r.alias8) (r.stored s) s t ∧ t.sp = s.sp ∧ t.pc = s.pc) ∧
    (EncodedAs (.rlR8 r) [0xCB, BitVec.ofNat 8 (0x10 + r.index)] ∧ ∃ t, exec (.rlR8 r) s = .next t ∧
      (t.r8get r).toNat = (2 * (s.r8get r).toNat) % 256 + s.fC.toNat ∧
      FlagsBecome { z := decide (t.r8get r = 0), n := false, h := false, c := (s.r8get r).getLsbD 7 } s t ∧
      Frame (.f :: r.alias8) (r.stored s) s t ∧ t.sp = s.sp ∧ t.pc = s.pc) ∧
    (EncodedAs (.rrR8 r) [0xCB, BitVec.ofNat 8 (0x18 + r.index)] ∧ ∃ t, exec (.rrR8 r) s = .next t ∧
      (t.r8get r).toNat = (s.r8get r).toNat / 2 + 128 * s.fC.toNat ∧
      FlagsBecome { z := decide (t.r8get r = 0), n := false, h := false, c := (s.r8get r).getLsbD 0 } s t ∧
      Frame (.f :: r.alias8) (r.stored s) s t ∧ t.sp = s.sp ∧ t.pc = s.pc)

/-- For every operand of the table, (HL) included: slaR8, sraR8, swapR8 and srlR8, encoded CB and 0x20, 0x28, 0x30,
0x38 plus the operand, give 2v mod 256, v/2 with bit 7 kept, the nibbles exchanged, v/2; Z = result is 0, N = H = 0,
C the bit that left (0 for SWAP); only the alias, or the byte at hl, and F change. The spec marks the table as its
decision D20. [47_cb.md R290, R295, R296, R297, R298 (general knowledge, D20)] -/
def Obligations.ExtensionShiftsAndSwap : Prop :=
  ∀ (r : R8) (s : State),
    (EncodedAs (.slaR8 r) [0xCB, BitVec.ofNat 8 (0x20 + r.index)] ∧ ∃ t, exec (.slaR8 r) s = .next t ∧
      (t.r8get r).toNat = (2 * (s.r8get r).toNat) % 256 ∧
      FlagsBecome { z := decide (t.r8get r = 0), n := false, h := false, c := (s.r8get r).getLsbD 7 } s t ∧
      Frame (.f :: r.alias8) (r.stored s) s t ∧ t.sp = s.sp ∧ t.pc = s.pc) ∧
    (EncodedAs (.sraR8 r) [0xCB, BitVec.ofNat 8 (0x28 + r.index)] ∧ ∃ t, exec (.sraR8 r) s = .next t ∧
      (t.r8get r).toNat = (s.r8get r).toNat / 2 + (s.r8get r).toNat / 128 * 128 ∧
      FlagsBecome { z := decide (t.r8get r = 0), n := false, h := false, c := (s.r8get r).getLsbD 0 } s t ∧
      Frame (.f :: r.alias8) (r.stored s) s t ∧ t.sp = s.sp ∧ t.pc = s.pc) ∧
    (EncodedAs (.swapR8 r) [0xCB, BitVec.ofNat 8 (0x30 + r.index)] ∧ ∃ t, exec (.swapR8 r) s = .next t ∧
      (t.r8get r).toNat = (s.r8get r).toNat % 16 * 16 + (s.r8get r).toNat / 16 ∧
      FlagsBecome { z := decide (t.r8get r = 0), n := false, h := false, c := false } s t ∧
      Frame (.f :: r.alias8) (r.stored s) s t ∧ t.sp = s.sp ∧ t.pc = s.pc) ∧
    (EncodedAs (.srlR8 r) [0xCB, BitVec.ofNat 8 (0x38 + r.index)] ∧ ∃ t, exec (.srlR8 r) s = .next t ∧
      (t.r8get r).toNat = (s.r8get r).toNat / 2 ∧
      FlagsBecome { z := decide (t.r8get r = 0), n := false, h := false, c := (s.r8get r).getLsbD 0 } s t ∧
      Frame (.f :: r.alias8) (r.stored s) s t ∧ t.sp = s.sp ∧ t.pc = s.pc)

/-- For every bit index b and operand: bitBR8 is encoded CB, 0x40 + 8 b + operand; Z becomes the complement of bit
b, N = 0, H = 1, C unchanged; no alias but F, no byte of memory changes. The spec marks the table as its decision
D20. [47_cb.md R290, R299 (general knowledge, D20)] -/
def Obligations.TestBit : Prop :=
  ∀ (b : Fin 8) (r : R8) (s : State),
    EncodedAs (.bitBR8 b r) [0xCB, BitVec.ofNat 8 (0x40 + 8 * b.val + r.index)] ∧
    ∃ t, exec (.bitBR8 b r) s = .next t ∧
      FlagsBecome { z := decide ((s.r8get r).toNat / 2 ^ b.val % 2 = 0), n := false, h := true, c := s.fC } s t ∧
      Frame [.f] [] s t ∧ t.sp = s.sp ∧ t.pc = s.pc

/-- For every bit index b and operand: resBR8 (CB, 0x80 + 8 b + operand) and setBR8 (CB, 0xC0 + 8 b + operand) make
bit b of the operand 0 and 1 and leave its other bits; F, every other alias and every other byte are unchanged. The
spec marks the table as its decision D20. [47_cb.md R290, R300, R301 (general knowledge, D20)] -/
def Obligations.ClearAndSetBit : Prop :=
  ∀ (b : Fin 8) (r : R8) (s : State),
    (EncodedAs (.resBR8 b r) [0xCB, BitVec.ofNat 8 (0x80 + 8 * b.val + r.index)] ∧
      ∃ t, exec (.resBR8 b r) s = .next t ∧
        (∀ k, (t.r8get r).getLsbD k = if k = b.val then false else (s.r8get r).getLsbD k) ∧
        Frame r.alias8 (r.stored s) s t ∧ t.sp = s.sp ∧ t.pc = s.pc) ∧
    (EncodedAs (.setBR8 b r) [0xCB, BitVec.ofNat 8 (0xC0 + 8 * b.val + r.index)] ∧
      ∃ t, exec (.setBR8 b r) s = .next t ∧
        (∀ k, (t.r8get r).getLsbD k = if k = b.val then true else (s.r8get r).getLsbD k) ∧
        Frame r.alias8 (r.stored s) s t ∧ t.sp = s.sp ∧ t.pc = s.pc)

/-- For every second byte: the bytes 0xCB, op2 decode to the extension entry decodeExt op2, with a bit index and an
operand from its fields; the prefix term (prefixCb op2) has these bytes as its encoding, and its meaning is that of
the entry, which answers a next state. That the decoder gives the entry and not the prefix term is the choice of log
7. [30_encoding.md section 1 (R82), section 4 (R92); 46_system.md R276; notes/assumptions/7.md (log 7)] -/
def Obligations.PrefixRunsTheExtensionEntry : Prop :=
  ∀ (op2 : Byte) (s : State),
    encode (.prefixCb op2) = [0xCB, op2] ∧ encode (decodeExt op2) = [0xCB, op2] ∧
    decode [0xCB, op2] = .ok (decodeExt op2) [] ∧
    exec (.prefixCb op2) s = exec (decodeExt op2) s ∧ ∃ t, exec (.prefixCb op2) s = .next t

/-- After Reset af, bc, de, hl, sp and pc are 0; every byte of memory, IME and RUN are as before. That the latch,
the run state and memory are kept is decision D3 of the spec (log 11). [70_reset_and_hazards.md section 1 (R361);
10_state.md section 6 (R36); 92_eei_decisions.md D3] -/
def Obligations.HostResetClearsTheRegistersOnly : Prop :=
  ∀ (s : State), (∀ r, s.hostReset.reg16 r = 0) ∧ (∀ a, s.hostReset.memRead a = s.memRead a) ∧
    s.hostReset.ime = s.ime ∧ s.hostReset.run = s.run

/-- For at most 65536 bytes, Load succeeds: address k reads bytes[k] for every k below the length and every other
address reads as before; the registers, IME and RUN are unchanged. For more, it reports Oversize with the length and
the registers, IME and RUN are unchanged (memory is unspecified: D21, log 5). That the bytes beyond the image are
kept is decision D30. [20_memory.md section 4 (R61); 60_exceptions.md section 1 (R324); 92_eei_decisions.md D21,
D30] -/
def Obligations.HostLoadCopiesOrReportsOversize : Prop :=
  ∀ (bytes : List Byte) (s : State),
    (bytes.length ≤ 65536 → ∃ t, hostLoad bytes s = .loaded t ∧
      (∀ k v, bytes[k]? = some v → t.memRead (BitVec.ofNat 16 k) = v) ∧
      (∀ a : Word, bytes.length ≤ a.toNat → t.memRead a = s.memRead a) ∧
      (∀ r, t.reg16 r = s.reg16 r) ∧ t.ime = s.ime ∧ t.run = s.run) ∧
    (65536 < bytes.length → ∃ t, hostLoad bytes s = .oversize bytes.length t ∧
      (∀ r, t.reg16 r = s.reg16 r) ∧ t.ime = s.ime ∧ t.run = s.run)
end

