-- ==== Sys2Proof/Laws/Bits.lean ====
section
/-! SUPPORT. Laws of the bit helpers: halves and join, one bit set in a byte, the four flag bits of `F`. -/

namespace Sys2Proof

theorem getLsbD_join (hi lo : Byte) (i : Nat) :
    (join hi lo).getLsbD i = if i < 8 then lo.getLsbD i else hi.getLsbD (i - 8) := by
  exact BitVec.getLsbD_append (x := hi) (y := lo) (i := i)

theorem getLsbD_hi8 (w : Word) (i : Nat) (h : i < 8) : (hi8 w).getLsbD i = w.getLsbD (8 + i) := by
  simp [hi8, h]

theorem getLsbD_lo8 (w : Word) (i : Nat) (h : i < 8) : (lo8 w).getLsbD i = w.getLsbD i := by
  simp [lo8, h]

@[simp] theorem hi8_join (hi lo : Byte) : hi8 (join hi lo) = hi := by
  apply BitVec.eq_of_getLsbD_eq
  intro i hi'
  rw [getLsbD_hi8 _ _ hi', getLsbD_join]
  simp

@[simp] theorem lo8_join (hi lo : Byte) : lo8 (join hi lo) = lo := by
  apply BitVec.eq_of_getLsbD_eq
  intro i hi'
  rw [getLsbD_lo8 _ _ hi', getLsbD_join]
  simp [hi']

@[simp] theorem join_hi8_lo8 (w : Word) : join (hi8 w) (lo8 w) = w := by
  apply BitVec.eq_of_getLsbD_eq
  intro i hi'
  rw [getLsbD_join]
  split
  · rw [getLsbD_lo8 _ _ ‹_›]
  · rw [getLsbD_hi8 _ _ (by omega)]
    congr 1
    omega

/-- A bit of a byte after one bit of it was set. -/
theorem getLsbD_setBit8 (v : Byte) (i j : Nat) (b : Bool) (hi : i < 8) :
    (setBit8 v i b).getLsbD j = if i = j then b else v.getLsbD j := by
  unfold setBit8
  by_cases hij : i = j
  · subst hij
    cases b <;> simp [hi]
  · by_cases hj : j < 8
    · cases b <;> simp [hij, hj, Ne.symm hij]
    · rw [if_neg hij, BitVec.getLsbD_of_ge _ _ (by omega), BitVec.getLsbD_of_ge _ _ (by omega)]

@[simp] theorem getElem_setBit8 (v : Byte) (i j : Nat) (b : Bool) (hi : i < 8) (hj : j < 8) :
    (setBit8 v i b)[j] = if i = j then b else v[j] := by
  have h := getLsbD_setBit8 v i j b hi
  simpa [hj] using h

namespace Machine

theorem withFlagBits_bit7 (v : Byte) (g : Flags) : (withFlagBits v g).getLsbD 7 = g.z := by simp [withFlagBits]
theorem withFlagBits_bit6 (v : Byte) (g : Flags) : (withFlagBits v g).getLsbD 6 = g.n := by simp [withFlagBits]
theorem withFlagBits_bit5 (v : Byte) (g : Flags) : (withFlagBits v g).getLsbD 5 = g.h := by simp [withFlagBits]
theorem withFlagBits_bit4 (v : Byte) (g : Flags) : (withFlagBits v g).getLsbD 4 = g.c := by simp [withFlagBits]

/-- Two bytes are equal when their eight bits are. -/
theorem byte_ext {x y : Byte} (h : ∀ i, i < 8 → x.getLsbD i = y.getLsbD i) : x = y :=
  BitVec.eq_of_getLsbD_eq h

/-- The flag bits are the high nibble, so writing them keeps the low one. -/
@[simp] theorem withFlagBits_lowNibble (v : Byte) (g : Flags) : withFlagBits v g &&& 15#8 = v &&& 15#8 := by
  apply byte_ext
  intro i hi
  have : i = 0 ∨ i = 1 ∨ i = 2 ∨ i = 3 ∨ i = 4 ∨ i = 5 ∨ i = 6 ∨ i = 7 := by omega
  rcases this with rfl | rfl | rfl | rfl | rfl | rfl | rfl | rfl <;> simp [withFlagBits]

end Machine

end Sys2Proof
end

