-- ==== Sys2Proof/Laws/Decode.lean ====
section
/-! SUPPORT. Laws of the decoder: what every cell of the base grid gives is encoded with that cell's byte first, and its
length is that of R85 (30_encoding.md); the extension table likewise; the decoder on the bytes at an address. -/

namespace Sys2Proof

/-- What a cell must satisfy at byte `b`: the instruction it makes of the bytes is well-formed, is encoded as those
bytes, and has the length R85 gives `b`. -/
def Entry.FitsByte (b : Byte) : Entry → Prop
  | .op i => i.wf = true ∧ encode i = [b] ∧ instrLength b = 1
  | .imm8 f => ∀ n, (f n).wf = true ∧ encode (f n) = [b, n] ∧ instrLength b = 2
  | .imm16 f => ∀ w, (f w).wf = true ∧ encode (f w) = [b, lo8 w, hi8 w] ∧ instrLength b = 3
  | .pfx => b = 0xCB ∧ instrLength b = 2

/-- The cells of a row of the grid that starts at byte `k` fit their bytes. -/
def RowFits : Nat → List Entry → Prop
  | _, [] => True
  | k, e :: es => e.FitsByte (BitVec.ofNat 8 k) ∧ RowFits (k + 1) es

theorem gridRow0_fits : RowFits 0 gridRow0 := by
  simp only [gridRow0, RowFits, Entry.FitsByte]
  repeat' (first | exact ⟨rfl, rfl, rfl⟩ | exact fun n => ⟨rfl, rfl, rfl⟩ | exact ⟨rfl, rfl⟩ | exact trivial | constructor)
theorem gridRow1_fits : RowFits 16 gridRow1 := by
  simp only [gridRow1, RowFits, Entry.FitsByte]
  repeat' (first | exact ⟨rfl, rfl, rfl⟩ | exact fun n => ⟨rfl, rfl, rfl⟩ | exact ⟨rfl, rfl⟩ | exact trivial | constructor)
theorem gridRow2_fits : RowFits 32 gridRow2 := by
  simp only [gridRow2, RowFits, Entry.FitsByte]
  repeat' (first | exact ⟨rfl, rfl, rfl⟩ | exact fun n => ⟨rfl, rfl, rfl⟩ | exact ⟨rfl, rfl⟩ | exact trivial | constructor)
theorem gridRow3_fits : RowFits 48 gridRow3 := by
  simp only [gridRow3, RowFits, Entry.FitsByte]
  repeat' (first | exact ⟨rfl, rfl, rfl⟩ | exact fun n => ⟨rfl, rfl, rfl⟩ | exact ⟨rfl, rfl⟩ | exact trivial | constructor)
theorem gridRow4_fits : RowFits 64 gridRow4 := by
  simp only [gridRow4, RowFits, Entry.FitsByte]
  repeat' (first | exact ⟨rfl, rfl, rfl⟩ | exact fun n => ⟨rfl, rfl, rfl⟩ | exact ⟨rfl, rfl⟩ | exact trivial | constructor)
theorem gridRow5_fits : RowFits 80 gridRow5 := by
  simp only [gridRow5, RowFits, Entry.FitsByte]
  repeat' (first | exact ⟨rfl, rfl, rfl⟩ | exact fun n => ⟨rfl, rfl, rfl⟩ | exact ⟨rfl, rfl⟩ | exact trivial | constructor)
theorem gridRow6_fits : RowFits 96 gridRow6 := by
  simp only [gridRow6, RowFits, Entry.FitsByte]
  repeat' (first | exact ⟨rfl, rfl, rfl⟩ | exact fun n => ⟨rfl, rfl, rfl⟩ | exact ⟨rfl, rfl⟩ | exact trivial | constructor)
theorem gridRow7_fits : RowFits 112 gridRow7 := by
  simp only [gridRow7, RowFits, Entry.FitsByte]
  repeat' (first | exact ⟨rfl, rfl, rfl⟩ | exact fun n => ⟨rfl, rfl, rfl⟩ | exact ⟨rfl, rfl⟩ | exact trivial | constructor)
theorem gridRow8_fits : RowFits 128 gridRow8 := by
  simp only [gridRow8, RowFits, Entry.FitsByte]
  repeat' (first | exact ⟨rfl, rfl, rfl⟩ | exact fun n => ⟨rfl, rfl, rfl⟩ | exact ⟨rfl, rfl⟩ | exact trivial | constructor)
theorem gridRow9_fits : RowFits 144 gridRow9 := by
  simp only [gridRow9, RowFits, Entry.FitsByte]
  repeat' (first | exact ⟨rfl, rfl, rfl⟩ | exact fun n => ⟨rfl, rfl, rfl⟩ | exact ⟨rfl, rfl⟩ | exact trivial | constructor)
theorem gridRowA_fits : RowFits 160 gridRowA := by
  simp only [gridRowA, RowFits, Entry.FitsByte]
  repeat' (first | exact ⟨rfl, rfl, rfl⟩ | exact fun n => ⟨rfl, rfl, rfl⟩ | exact ⟨rfl, rfl⟩ | exact trivial | constructor)
theorem gridRowB_fits : RowFits 176 gridRowB := by
  simp only [gridRowB, RowFits, Entry.FitsByte]
  repeat' (first | exact ⟨rfl, rfl, rfl⟩ | exact fun n => ⟨rfl, rfl, rfl⟩ | exact ⟨rfl, rfl⟩ | exact trivial | constructor)
theorem gridRowC_fits : RowFits 192 gridRowC := by
  simp only [gridRowC, RowFits, Entry.FitsByte]
  repeat' (first | exact ⟨rfl, rfl, rfl⟩ | exact fun n => ⟨rfl, rfl, rfl⟩ | exact ⟨rfl, rfl⟩ | exact trivial | constructor)
theorem gridRowD_fits : RowFits 208 gridRowD := by
  simp only [gridRowD, RowFits, Entry.FitsByte]
  repeat' (first | exact ⟨rfl, rfl, rfl⟩ | exact fun n => ⟨rfl, rfl, rfl⟩ | exact ⟨rfl, rfl⟩ | exact trivial | constructor)
theorem gridRowE_fits : RowFits 224 gridRowE := by
  simp only [gridRowE, RowFits, Entry.FitsByte]
  repeat' (first | exact ⟨rfl, rfl, rfl⟩ | exact fun n => ⟨rfl, rfl, rfl⟩ | exact ⟨rfl, rfl⟩ | exact trivial | constructor)
theorem gridRowF_fits : RowFits 240 gridRowF := by
  simp only [gridRowF, RowFits, Entry.FitsByte]
  repeat' (first | exact ⟨rfl, rfl, rfl⟩ | exact fun n => ⟨rfl, rfl, rfl⟩ | exact ⟨rfl, rfl⟩ | exact trivial | constructor)

theorem RowFits.append {a b : List Entry} {k m : Nat} (ha : RowFits k a) (hm : k + a.length = m) (hb : RowFits m b) :
    RowFits k (a ++ b) := by
  induction a generalizing k with
  | nil =>
    have : k = m := by simpa using hm
    rw [this]
    exact hb
  | cons e es ih => exact ⟨ha.1, ih ha.2 (by simp only [List.length_cons] at hm; omega)⟩

theorem RowFits.get {l : List Entry} {k : Nat} (h : RowFits k l) (i : Nat) (hi : i < l.length) :
    l[i].FitsByte (BitVec.ofNat 8 (k + i)) := by
  induction l generalizing k i with
  | nil => simp at hi
  | cons e es ih =>
    cases i with
    | zero => exact h.1
    | succ i =>
      have h1 := ih h.2 i (by simpa using hi)
      have e1 : k + 1 + i = k + (i + 1) := by omega
      rw [e1] at h1
      simpa using h1

theorem baseTable_fits : RowFits 0 baseTable := by
  unfold baseTable
  refine RowFits.append (m := 240) ?_ (by simp only [List.length_append]; rfl) gridRowF_fits
  refine RowFits.append (m := 224) ?_ (by simp only [List.length_append]; rfl) gridRowE_fits
  refine RowFits.append (m := 208) ?_ (by simp only [List.length_append]; rfl) gridRowD_fits
  refine RowFits.append (m := 192) ?_ (by simp only [List.length_append]; rfl) gridRowC_fits
  refine RowFits.append (m := 176) ?_ (by simp only [List.length_append]; rfl) gridRowB_fits
  refine RowFits.append (m := 160) ?_ (by simp only [List.length_append]; rfl) gridRowA_fits
  refine RowFits.append (m := 144) ?_ (by simp only [List.length_append]; rfl) gridRow9_fits
  refine RowFits.append (m := 128) ?_ (by simp only [List.length_append]; rfl) gridRow8_fits
  refine RowFits.append (m := 112) ?_ (by simp only [List.length_append]; rfl) gridRow7_fits
  refine RowFits.append (m := 96) ?_ (by simp only [List.length_append]; rfl) gridRow6_fits
  refine RowFits.append (m := 80) ?_ (by simp only [List.length_append]; rfl) gridRow5_fits
  refine RowFits.append (m := 64) ?_ (by simp only [List.length_append]; rfl) gridRow4_fits
  refine RowFits.append (m := 48) ?_ (by simp only [List.length_append]; rfl) gridRow3_fits
  refine RowFits.append (m := 32) ?_ (by simp only [List.length_append]; rfl) gridRow2_fits
  exact RowFits.append (m := 16) gridRow0_fits rfl gridRow1_fits

/-- Every byte's cell fits it. -/
theorem baseEntry_fits (b : Byte) : (baseEntry b).FitsByte b := by
  have h := baseTable_fits.get b.toNat (by rw [baseTable_length]; exact b.isLt)
  simpa [baseEntry] using h

/-- R85: the length is 1, 2 or 3. -/
theorem instrLength_bounds (b : Byte) : 1 ≤ instrLength b ∧ instrLength b ≤ 3 := by
  have h := baseEntry_fits b
  cases he : baseEntry b with
  | op i => rw [he] at h; rw [h.2.2]; decide
  | imm8 f => rw [he] at h; rw [(h 0).2.2]; decide
  | imm16 f => rw [he] at h; rw [(h 0).2.2]; decide
  | pfx => rw [he] at h; rw [h.2]; decide

/-- The bytes after the prefix: one opcode byte, whatever follows. -/
theorem decode_cb (op2 : Byte) (rest : List Byte) : decode (0xCB :: op2 :: rest) = .ok (decodeExt op2) rest := rfl

/-- The extension entry of a byte is encoded as the prefix and that byte. -/
theorem encode_decodeExt (op2 : Byte) : encode (decodeExt op2) = [0xCB, op2] ∧ (decodeExt op2).wf = true := by
  have h : ∀ x : Fin 256, encode (decodeExt (BitVec.ofNat 8 x.val)) = [0xCB, BitVec.ofNat 8 x.val] ∧
      (decodeExt (BitVec.ofNat 8 x.val)).wf = true := by decide +kernel
  have h1 := h ⟨op2.toNat, op2.isLt⟩
  have e : BitVec.ofNat 8 op2.toNat = op2 := by simp
  rw [e] at h1
  exact h1

/-- The fields of `opcode2` read back from the encodings of BIT, RES and SET. -/
theorem decodeExt_bitForms (b : Fin 8) (r : R8) :
    decodeExt (BitVec.ofNat 8 (0x40 + 8 * b.val + r.index)) = .bitBR8 b r ∧
    decodeExt (BitVec.ofNat 8 (0x80 + 8 * b.val + r.index)) = .resBR8 b r ∧
    decodeExt (BitVec.ofNat 8 (0xC0 + 8 * b.val + r.index)) = .setBR8 b r := by
  cases r <;> revert b <;> decide

/-- The fields of `opcode2` read back from the encodings of the rotates, shifts and SWAP. -/
theorem decodeExt_rotates (r : R8) :
    decodeExt (BitVec.ofNat 8 (0x00 + r.index)) = .rlcR8 r ∧ decodeExt (BitVec.ofNat 8 (0x08 + r.index)) = .rrcR8 r ∧
    decodeExt (BitVec.ofNat 8 (0x10 + r.index)) = .rlR8 r ∧ decodeExt (BitVec.ofNat 8 (0x18 + r.index)) = .rrR8 r ∧
    decodeExt (BitVec.ofNat 8 (0x20 + r.index)) = .slaR8 r ∧ decodeExt (BitVec.ofNat 8 (0x28 + r.index)) = .sraR8 r ∧
    decodeExt (BitVec.ofNat 8 (0x30 + r.index)) = .swapR8 r ∧ decodeExt (BitVec.ofNat 8 (0x38 + r.index)) = .srlR8 r := by
  cases r <;> decide

namespace Machine

theorem State.readRange_three (s : State) (a : Word) :
    s.readRange a 3 = [s.memRead a, s.memRead (a + 1), s.memRead (a + 2)] := by
  simp [State.readRange, List.range, List.range.loop]

/-- The decoder on the three bytes at `pc` gives what the fetch gives. -/
theorem State.decode_at_pc (s : State) :
    decode (s.readRange s.pc 3) = .ok (s.instrAt s.pc) ((s.readRange s.pc 3).drop (instrLength (s.memRead s.pc))) := by
  have h := instrLength_bounds (s.memRead s.pc)
  rw [State.readRange_three]
  simp only [decode]
  rw [if_neg (by simp only [List.length_cons, List.length_nil]; omega)]
  congr 1
  simp [State.instrAt, decodeAt]

end Machine

end Sys2Proof
end

