-- ==== Sys2Proof/Laws/State.lean ====
section
/-! SUPPORT. One lemma per field per update of State, true by rfl, so that no proof unfolds a record update; and that no
register write touches what memory reads. -/

namespace Sys2Proof.Machine

variable (s : State)

@[simp] theorem State.setAf_af (v : Word) : (s.setAf v).af = v &&& 0xFFF0 := rfl
@[simp] theorem State.setAf_bc (v : Word) : (s.setAf v).bc = s.bc := rfl
@[simp] theorem State.setAf_de (v : Word) : (s.setAf v).de = s.de := rfl
@[simp] theorem State.setAf_hl (v : Word) : (s.setAf v).hl = s.hl := rfl
@[simp] theorem State.setAf_sp (v : Word) : (s.setAf v).sp = s.sp := rfl
@[simp] theorem State.setAf_pc (v : Word) : (s.setAf v).pc = s.pc := rfl
@[simp] theorem State.setAf_ime (v : Word) : (s.setAf v).ime = s.ime := rfl
@[simp] theorem State.setAf_run (v : Word) : (s.setAf v).run = s.run := rfl
@[simp] theorem State.setAf_mem (v : Word) : (s.setAf v).mem = s.mem := rfl
@[simp] theorem State.setAf_memEpoch (v : Word) : (s.setAf v).memEpoch = s.memEpoch := rfl
@[simp] theorem State.setAf_memRead (v : Word) (x : Word) : (s.setAf v).memRead x = s.memRead x := rfl

@[simp] theorem State.setBc_af (v : Word) : (s.setBc v).af = s.af := rfl
@[simp] theorem State.setBc_bc (v : Word) : (s.setBc v).bc = v := rfl
@[simp] theorem State.setBc_de (v : Word) : (s.setBc v).de = s.de := rfl
@[simp] theorem State.setBc_hl (v : Word) : (s.setBc v).hl = s.hl := rfl
@[simp] theorem State.setBc_sp (v : Word) : (s.setBc v).sp = s.sp := rfl
@[simp] theorem State.setBc_pc (v : Word) : (s.setBc v).pc = s.pc := rfl
@[simp] theorem State.setBc_ime (v : Word) : (s.setBc v).ime = s.ime := rfl
@[simp] theorem State.setBc_run (v : Word) : (s.setBc v).run = s.run := rfl
@[simp] theorem State.setBc_mem (v : Word) : (s.setBc v).mem = s.mem := rfl
@[simp] theorem State.setBc_memEpoch (v : Word) : (s.setBc v).memEpoch = s.memEpoch := rfl
@[simp] theorem State.setBc_memRead (v : Word) (x : Word) : (s.setBc v).memRead x = s.memRead x := rfl

@[simp] theorem State.setDe_af (v : Word) : (s.setDe v).af = s.af := rfl
@[simp] theorem State.setDe_bc (v : Word) : (s.setDe v).bc = s.bc := rfl
@[simp] theorem State.setDe_de (v : Word) : (s.setDe v).de = v := rfl
@[simp] theorem State.setDe_hl (v : Word) : (s.setDe v).hl = s.hl := rfl
@[simp] theorem State.setDe_sp (v : Word) : (s.setDe v).sp = s.sp := rfl
@[simp] theorem State.setDe_pc (v : Word) : (s.setDe v).pc = s.pc := rfl
@[simp] theorem State.setDe_ime (v : Word) : (s.setDe v).ime = s.ime := rfl
@[simp] theorem State.setDe_run (v : Word) : (s.setDe v).run = s.run := rfl
@[simp] theorem State.setDe_mem (v : Word) : (s.setDe v).mem = s.mem := rfl
@[simp] theorem State.setDe_memEpoch (v : Word) : (s.setDe v).memEpoch = s.memEpoch := rfl
@[simp] theorem State.setDe_memRead (v : Word) (x : Word) : (s.setDe v).memRead x = s.memRead x := rfl

@[simp] theorem State.setHl_af (v : Word) : (s.setHl v).af = s.af := rfl
@[simp] theorem State.setHl_bc (v : Word) : (s.setHl v).bc = s.bc := rfl
@[simp] theorem State.setHl_de (v : Word) : (s.setHl v).de = s.de := rfl
@[simp] theorem State.setHl_hl (v : Word) : (s.setHl v).hl = v := rfl
@[simp] theorem State.setHl_sp (v : Word) : (s.setHl v).sp = s.sp := rfl
@[simp] theorem State.setHl_pc (v : Word) : (s.setHl v).pc = s.pc := rfl
@[simp] theorem State.setHl_ime (v : Word) : (s.setHl v).ime = s.ime := rfl
@[simp] theorem State.setHl_run (v : Word) : (s.setHl v).run = s.run := rfl
@[simp] theorem State.setHl_mem (v : Word) : (s.setHl v).mem = s.mem := rfl
@[simp] theorem State.setHl_memEpoch (v : Word) : (s.setHl v).memEpoch = s.memEpoch := rfl
@[simp] theorem State.setHl_memRead (v : Word) (x : Word) : (s.setHl v).memRead x = s.memRead x := rfl

@[simp] theorem State.setSp_af (v : Word) : (s.setSp v).af = s.af := rfl
@[simp] theorem State.setSp_bc (v : Word) : (s.setSp v).bc = s.bc := rfl
@[simp] theorem State.setSp_de (v : Word) : (s.setSp v).de = s.de := rfl
@[simp] theorem State.setSp_hl (v : Word) : (s.setSp v).hl = s.hl := rfl
@[simp] theorem State.setSp_sp (v : Word) : (s.setSp v).sp = v := rfl
@[simp] theorem State.setSp_pc (v : Word) : (s.setSp v).pc = s.pc := rfl
@[simp] theorem State.setSp_ime (v : Word) : (s.setSp v).ime = s.ime := rfl
@[simp] theorem State.setSp_run (v : Word) : (s.setSp v).run = s.run := rfl
@[simp] theorem State.setSp_mem (v : Word) : (s.setSp v).mem = s.mem := rfl
@[simp] theorem State.setSp_memEpoch (v : Word) : (s.setSp v).memEpoch = s.memEpoch := rfl
@[simp] theorem State.setSp_memRead (v : Word) (x : Word) : (s.setSp v).memRead x = s.memRead x := rfl

@[simp] theorem State.setPc_af (v : Word) : (s.setPc v).af = s.af := rfl
@[simp] theorem State.setPc_bc (v : Word) : (s.setPc v).bc = s.bc := rfl
@[simp] theorem State.setPc_de (v : Word) : (s.setPc v).de = s.de := rfl
@[simp] theorem State.setPc_hl (v : Word) : (s.setPc v).hl = s.hl := rfl
@[simp] theorem State.setPc_sp (v : Word) : (s.setPc v).sp = s.sp := rfl
@[simp] theorem State.setPc_pc (v : Word) : (s.setPc v).pc = v := rfl
@[simp] theorem State.setPc_ime (v : Word) : (s.setPc v).ime = s.ime := rfl
@[simp] theorem State.setPc_run (v : Word) : (s.setPc v).run = s.run := rfl
@[simp] theorem State.setPc_mem (v : Word) : (s.setPc v).mem = s.mem := rfl
@[simp] theorem State.setPc_memEpoch (v : Word) : (s.setPc v).memEpoch = s.memEpoch := rfl
@[simp] theorem State.setPc_memRead (v : Word) (x : Word) : (s.setPc v).memRead x = s.memRead x := rfl

@[simp] theorem State.setIme_af (v : Bool) : (s.setIme v).af = s.af := rfl
@[simp] theorem State.setIme_bc (v : Bool) : (s.setIme v).bc = s.bc := rfl
@[simp] theorem State.setIme_de (v : Bool) : (s.setIme v).de = s.de := rfl
@[simp] theorem State.setIme_hl (v : Bool) : (s.setIme v).hl = s.hl := rfl
@[simp] theorem State.setIme_sp (v : Bool) : (s.setIme v).sp = s.sp := rfl
@[simp] theorem State.setIme_pc (v : Bool) : (s.setIme v).pc = s.pc := rfl
@[simp] theorem State.setIme_ime (v : Bool) : (s.setIme v).ime = v := rfl
@[simp] theorem State.setIme_run (v : Bool) : (s.setIme v).run = s.run := rfl
@[simp] theorem State.setIme_mem (v : Bool) : (s.setIme v).mem = s.mem := rfl
@[simp] theorem State.setIme_memEpoch (v : Bool) : (s.setIme v).memEpoch = s.memEpoch := rfl
@[simp] theorem State.setIme_memRead (v : Bool) (x : Word) : (s.setIme v).memRead x = s.memRead x := rfl

@[simp] theorem State.setRun_af (v : RunState) : (s.setRun v).af = s.af := rfl
@[simp] theorem State.setRun_bc (v : RunState) : (s.setRun v).bc = s.bc := rfl
@[simp] theorem State.setRun_de (v : RunState) : (s.setRun v).de = s.de := rfl
@[simp] theorem State.setRun_hl (v : RunState) : (s.setRun v).hl = s.hl := rfl
@[simp] theorem State.setRun_sp (v : RunState) : (s.setRun v).sp = s.sp := rfl
@[simp] theorem State.setRun_pc (v : RunState) : (s.setRun v).pc = s.pc := rfl
@[simp] theorem State.setRun_ime (v : RunState) : (s.setRun v).ime = s.ime := rfl
@[simp] theorem State.setRun_run (v : RunState) : (s.setRun v).run = v := rfl
@[simp] theorem State.setRun_mem (v : RunState) : (s.setRun v).mem = s.mem := rfl
@[simp] theorem State.setRun_memEpoch (v : RunState) : (s.setRun v).memEpoch = s.memEpoch := rfl
@[simp] theorem State.setRun_memRead (v : RunState) (x : Word) : (s.setRun v).memRead x = s.memRead x := rfl

@[simp] theorem State.setA_af (v : Byte) : (s.setA v).af = join v (lo8 s.af) := rfl
@[simp] theorem State.setA_bc (v : Byte) : (s.setA v).bc = s.bc := rfl
@[simp] theorem State.setA_de (v : Byte) : (s.setA v).de = s.de := rfl
@[simp] theorem State.setA_hl (v : Byte) : (s.setA v).hl = s.hl := rfl
@[simp] theorem State.setA_sp (v : Byte) : (s.setA v).sp = s.sp := rfl
@[simp] theorem State.setA_pc (v : Byte) : (s.setA v).pc = s.pc := rfl
@[simp] theorem State.setA_ime (v : Byte) : (s.setA v).ime = s.ime := rfl
@[simp] theorem State.setA_run (v : Byte) : (s.setA v).run = s.run := rfl
@[simp] theorem State.setA_mem (v : Byte) : (s.setA v).mem = s.mem := rfl
@[simp] theorem State.setA_memEpoch (v : Byte) : (s.setA v).memEpoch = s.memEpoch := rfl
@[simp] theorem State.setA_memRead (v : Byte) (x : Word) : (s.setA v).memRead x = s.memRead x := rfl

@[simp] theorem State.setF_af (v : Byte) : (s.setF v).af = join (hi8 s.af) (v &&& 0xF0) := rfl
@[simp] theorem State.setF_bc (v : Byte) : (s.setF v).bc = s.bc := rfl
@[simp] theorem State.setF_de (v : Byte) : (s.setF v).de = s.de := rfl
@[simp] theorem State.setF_hl (v : Byte) : (s.setF v).hl = s.hl := rfl
@[simp] theorem State.setF_sp (v : Byte) : (s.setF v).sp = s.sp := rfl
@[simp] theorem State.setF_pc (v : Byte) : (s.setF v).pc = s.pc := rfl
@[simp] theorem State.setF_ime (v : Byte) : (s.setF v).ime = s.ime := rfl
@[simp] theorem State.setF_run (v : Byte) : (s.setF v).run = s.run := rfl
@[simp] theorem State.setF_mem (v : Byte) : (s.setF v).mem = s.mem := rfl
@[simp] theorem State.setF_memEpoch (v : Byte) : (s.setF v).memEpoch = s.memEpoch := rfl
@[simp] theorem State.setF_memRead (v : Byte) (x : Word) : (s.setF v).memRead x = s.memRead x := rfl

@[simp] theorem State.setB_af (v : Byte) : (s.setB v).af = s.af := rfl
@[simp] theorem State.setB_bc (v : Byte) : (s.setB v).bc = join v (lo8 s.bc) := rfl
@[simp] theorem State.setB_de (v : Byte) : (s.setB v).de = s.de := rfl
@[simp] theorem State.setB_hl (v : Byte) : (s.setB v).hl = s.hl := rfl
@[simp] theorem State.setB_sp (v : Byte) : (s.setB v).sp = s.sp := rfl
@[simp] theorem State.setB_pc (v : Byte) : (s.setB v).pc = s.pc := rfl
@[simp] theorem State.setB_ime (v : Byte) : (s.setB v).ime = s.ime := rfl
@[simp] theorem State.setB_run (v : Byte) : (s.setB v).run = s.run := rfl
@[simp] theorem State.setB_mem (v : Byte) : (s.setB v).mem = s.mem := rfl
@[simp] theorem State.setB_memEpoch (v : Byte) : (s.setB v).memEpoch = s.memEpoch := rfl
@[simp] theorem State.setB_memRead (v : Byte) (x : Word) : (s.setB v).memRead x = s.memRead x := rfl

@[simp] theorem State.setC_af (v : Byte) : (s.setC v).af = s.af := rfl
@[simp] theorem State.setC_bc (v : Byte) : (s.setC v).bc = join (hi8 s.bc) v := rfl
@[simp] theorem State.setC_de (v : Byte) : (s.setC v).de = s.de := rfl
@[simp] theorem State.setC_hl (v : Byte) : (s.setC v).hl = s.hl := rfl
@[simp] theorem State.setC_sp (v : Byte) : (s.setC v).sp = s.sp := rfl
@[simp] theorem State.setC_pc (v : Byte) : (s.setC v).pc = s.pc := rfl
@[simp] theorem State.setC_ime (v : Byte) : (s.setC v).ime = s.ime := rfl
@[simp] theorem State.setC_run (v : Byte) : (s.setC v).run = s.run := rfl
@[simp] theorem State.setC_mem (v : Byte) : (s.setC v).mem = s.mem := rfl
@[simp] theorem State.setC_memEpoch (v : Byte) : (s.setC v).memEpoch = s.memEpoch := rfl
@[simp] theorem State.setC_memRead (v : Byte) (x : Word) : (s.setC v).memRead x = s.memRead x := rfl

@[simp] theorem State.setD_af (v : Byte) : (s.setD v).af = s.af := rfl
@[simp] theorem State.setD_bc (v : Byte) : (s.setD v).bc = s.bc := rfl
@[simp] theorem State.setD_de (v : Byte) : (s.setD v).de = join v (lo8 s.de) := rfl
@[simp] theorem State.setD_hl (v : Byte) : (s.setD v).hl = s.hl := rfl
@[simp] theorem State.setD_sp (v : Byte) : (s.setD v).sp = s.sp := rfl
@[simp] theorem State.setD_pc (v : Byte) : (s.setD v).pc = s.pc := rfl
@[simp] theorem State.setD_ime (v : Byte) : (s.setD v).ime = s.ime := rfl
@[simp] theorem State.setD_run (v : Byte) : (s.setD v).run = s.run := rfl
@[simp] theorem State.setD_mem (v : Byte) : (s.setD v).mem = s.mem := rfl
@[simp] theorem State.setD_memEpoch (v : Byte) : (s.setD v).memEpoch = s.memEpoch := rfl
@[simp] theorem State.setD_memRead (v : Byte) (x : Word) : (s.setD v).memRead x = s.memRead x := rfl

@[simp] theorem State.setE_af (v : Byte) : (s.setE v).af = s.af := rfl
@[simp] theorem State.setE_bc (v : Byte) : (s.setE v).bc = s.bc := rfl
@[simp] theorem State.setE_de (v : Byte) : (s.setE v).de = join (hi8 s.de) v := rfl
@[simp] theorem State.setE_hl (v : Byte) : (s.setE v).hl = s.hl := rfl
@[simp] theorem State.setE_sp (v : Byte) : (s.setE v).sp = s.sp := rfl
@[simp] theorem State.setE_pc (v : Byte) : (s.setE v).pc = s.pc := rfl
@[simp] theorem State.setE_ime (v : Byte) : (s.setE v).ime = s.ime := rfl
@[simp] theorem State.setE_run (v : Byte) : (s.setE v).run = s.run := rfl
@[simp] theorem State.setE_mem (v : Byte) : (s.setE v).mem = s.mem := rfl
@[simp] theorem State.setE_memEpoch (v : Byte) : (s.setE v).memEpoch = s.memEpoch := rfl
@[simp] theorem State.setE_memRead (v : Byte) (x : Word) : (s.setE v).memRead x = s.memRead x := rfl

@[simp] theorem State.setH_af (v : Byte) : (s.setH v).af = s.af := rfl
@[simp] theorem State.setH_bc (v : Byte) : (s.setH v).bc = s.bc := rfl
@[simp] theorem State.setH_de (v : Byte) : (s.setH v).de = s.de := rfl
@[simp] theorem State.setH_hl (v : Byte) : (s.setH v).hl = join v (lo8 s.hl) := rfl
@[simp] theorem State.setH_sp (v : Byte) : (s.setH v).sp = s.sp := rfl
@[simp] theorem State.setH_pc (v : Byte) : (s.setH v).pc = s.pc := rfl
@[simp] theorem State.setH_ime (v : Byte) : (s.setH v).ime = s.ime := rfl
@[simp] theorem State.setH_run (v : Byte) : (s.setH v).run = s.run := rfl
@[simp] theorem State.setH_mem (v : Byte) : (s.setH v).mem = s.mem := rfl
@[simp] theorem State.setH_memEpoch (v : Byte) : (s.setH v).memEpoch = s.memEpoch := rfl
@[simp] theorem State.setH_memRead (v : Byte) (x : Word) : (s.setH v).memRead x = s.memRead x := rfl

@[simp] theorem State.setL_af (v : Byte) : (s.setL v).af = s.af := rfl
@[simp] theorem State.setL_bc (v : Byte) : (s.setL v).bc = s.bc := rfl
@[simp] theorem State.setL_de (v : Byte) : (s.setL v).de = s.de := rfl
@[simp] theorem State.setL_hl (v : Byte) : (s.setL v).hl = join (hi8 s.hl) v := rfl
@[simp] theorem State.setL_sp (v : Byte) : (s.setL v).sp = s.sp := rfl
@[simp] theorem State.setL_pc (v : Byte) : (s.setL v).pc = s.pc := rfl
@[simp] theorem State.setL_ime (v : Byte) : (s.setL v).ime = s.ime := rfl
@[simp] theorem State.setL_run (v : Byte) : (s.setL v).run = s.run := rfl
@[simp] theorem State.setL_mem (v : Byte) : (s.setL v).mem = s.mem := rfl
@[simp] theorem State.setL_memEpoch (v : Byte) : (s.setL v).memEpoch = s.memEpoch := rfl
@[simp] theorem State.setL_memRead (v : Byte) (x : Word) : (s.setL v).memRead x = s.memRead x := rfl

@[simp] theorem State.setFlags_af (v : Flags) : (s.setFlags v).af = join (hi8 s.af) (withFlagBits (lo8 s.af) v) := rfl
@[simp] theorem State.setFlags_bc (v : Flags) : (s.setFlags v).bc = s.bc := rfl
@[simp] theorem State.setFlags_de (v : Flags) : (s.setFlags v).de = s.de := rfl
@[simp] theorem State.setFlags_hl (v : Flags) : (s.setFlags v).hl = s.hl := rfl
@[simp] theorem State.setFlags_sp (v : Flags) : (s.setFlags v).sp = s.sp := rfl
@[simp] theorem State.setFlags_pc (v : Flags) : (s.setFlags v).pc = s.pc := rfl
@[simp] theorem State.setFlags_ime (v : Flags) : (s.setFlags v).ime = s.ime := rfl
@[simp] theorem State.setFlags_run (v : Flags) : (s.setFlags v).run = s.run := rfl
@[simp] theorem State.setFlags_mem (v : Flags) : (s.setFlags v).mem = s.mem := rfl
@[simp] theorem State.setFlags_memEpoch (v : Flags) : (s.setFlags v).memEpoch = s.memEpoch := rfl
@[simp] theorem State.setFlags_memRead (v : Flags) (x : Word) : (s.setFlags v).memRead x = s.memRead x := rfl

@[simp] theorem State.memWrite_af (x : Word) (v : Byte) : (s.memWrite x v).af = s.af := rfl
@[simp] theorem State.memWrite_bc (x : Word) (v : Byte) : (s.memWrite x v).bc = s.bc := rfl
@[simp] theorem State.memWrite_de (x : Word) (v : Byte) : (s.memWrite x v).de = s.de := rfl
@[simp] theorem State.memWrite_hl (x : Word) (v : Byte) : (s.memWrite x v).hl = s.hl := rfl
@[simp] theorem State.memWrite_sp (x : Word) (v : Byte) : (s.memWrite x v).sp = s.sp := rfl
@[simp] theorem State.memWrite_pc (x : Word) (v : Byte) : (s.memWrite x v).pc = s.pc := rfl
@[simp] theorem State.memWrite_ime (x : Word) (v : Byte) : (s.memWrite x v).ime = s.ime := rfl
@[simp] theorem State.memWrite_run (x : Word) (v : Byte) : (s.memWrite x v).run = s.run := rfl
@[simp] theorem State.memWrite_mem (x : Word) (v : Byte) : (s.memWrite x v).mem = s.mem.store x.toNat v := rfl
@[simp] theorem State.memWrite_memEpoch (x : Word) (v : Byte) : (s.memWrite x v).memEpoch = s.memEpoch := rfl

@[simp] theorem State.memWrite16_af (x v : Word) : (s.memWrite16 x v).af = s.af := rfl
@[simp] theorem State.memWrite16_bc (x v : Word) : (s.memWrite16 x v).bc = s.bc := rfl
@[simp] theorem State.memWrite16_de (x v : Word) : (s.memWrite16 x v).de = s.de := rfl
@[simp] theorem State.memWrite16_hl (x v : Word) : (s.memWrite16 x v).hl = s.hl := rfl
@[simp] theorem State.memWrite16_sp (x v : Word) : (s.memWrite16 x v).sp = s.sp := rfl
@[simp] theorem State.memWrite16_pc (x v : Word) : (s.memWrite16 x v).pc = s.pc := rfl
@[simp] theorem State.memWrite16_ime (x v : Word) : (s.memWrite16 x v).ime = s.ime := rfl
@[simp] theorem State.memWrite16_run (x v : Word) : (s.memWrite16 x v).run = s.run := rfl
@[simp] theorem State.memWrite16_mem (x v : Word) : (s.memWrite16 x v).mem = (s.mem.store x.toNat (lo8 v)).store (x + 1).toNat (hi8 v) := rfl
@[simp] theorem State.memWrite16_memEpoch (x v : Word) : (s.memWrite16 x v).memEpoch = s.memEpoch := rfl

@[simp] theorem State.push16_af (v : Word) : (s.push16 v).af = s.af := rfl
@[simp] theorem State.push16_bc (v : Word) : (s.push16 v).bc = s.bc := rfl
@[simp] theorem State.push16_de (v : Word) : (s.push16 v).de = s.de := rfl
@[simp] theorem State.push16_hl (v : Word) : (s.push16 v).hl = s.hl := rfl
@[simp] theorem State.push16_sp (v : Word) : (s.push16 v).sp = s.sp - 1 - 1 := rfl
@[simp] theorem State.push16_pc (v : Word) : (s.push16 v).pc = s.pc := rfl
@[simp] theorem State.push16_ime (v : Word) : (s.push16 v).ime = s.ime := rfl
@[simp] theorem State.push16_run (v : Word) : (s.push16 v).run = s.run := rfl
@[simp] theorem State.push16_mem (v : Word) : (s.push16 v).mem = (s.mem.store (s.sp - 1).toNat (hi8 v)).store (s.sp - 1 - 1).toNat (lo8 v) := rfl
@[simp] theorem State.push16_memEpoch (v : Word) : (s.push16 v).memEpoch = s.memEpoch := rfl

@[simp] theorem State.hostReset_af : s.hostReset.af = 0 := rfl
@[simp] theorem State.hostReset_bc : s.hostReset.bc = 0 := rfl
@[simp] theorem State.hostReset_de : s.hostReset.de = 0 := rfl
@[simp] theorem State.hostReset_hl : s.hostReset.hl = 0 := rfl
@[simp] theorem State.hostReset_sp : s.hostReset.sp = 0 := rfl
@[simp] theorem State.hostReset_pc : s.hostReset.pc = 0 := rfl
@[simp] theorem State.hostReset_ime : s.hostReset.ime = s.ime := rfl
@[simp] theorem State.hostReset_run : s.hostReset.run = s.run := rfl
@[simp] theorem State.hostReset_mem : s.hostReset.mem = s.mem := rfl
@[simp] theorem State.hostReset_memEpoch : s.hostReset.memEpoch = s.memEpoch := rfl
@[simp] theorem State.hostReset_memRead (x : Word) : s.hostReset.memRead x = s.memRead x := rfl

end Sys2Proof.Machine
end

