-- ==== Sys2Proof/Laws/Memory.lean ====
section
/-! SUPPORT. Laws of memory: read after write, every other byte kept, and the canonical form kept by every operation
(20_memory.md R50, R51, R55). -/

namespace Sys2Proof.Machine

/-! ## The list -/

@[simp] theorem Memory.lookup_store_same (m : Memory) (a : Nat) (v : Byte) : (m.store a v).lookup a = some v := by
  induction m with
  | nil => simp [Memory.store, Memory.lookup]
  | cons p m ih =>
    obtain ⟨k, w⟩ := p
    by_cases h1 : a < k
    · simp [Memory.store, Memory.lookup, h1]
    · by_cases h2 : a = k
      · simp [Memory.store, Memory.lookup, h2]
      · simp [Memory.store, Memory.lookup, h1, h2, Ne.symm h2, ih]

theorem Memory.lookup_store_other (m : Memory) (a b : Nat) (v : Byte) (h : b ≠ a) :
    (m.store a v).lookup b = m.lookup b := by
  induction m with
  | nil => simp [Memory.store, Memory.lookup, Ne.symm h]
  | cons p m ih =>
    obtain ⟨k, w⟩ := p
    by_cases h1 : a < k
    · simp [Memory.store, Memory.lookup, h1, Ne.symm h]
    · by_cases h2 : a = k
      · subst h2
        simp [Memory.store, Memory.lookup, Ne.symm h]
      · simp [Memory.store, Memory.lookup, h1, h2, ih]

theorem Memory.wfFrom_mono (m : Memory) (lo lo' : Nat) (h : lo' ≤ lo) (hm : Memory.wfFrom lo m = true) :
    Memory.wfFrom lo' m = true := by
  cases m with
  | nil => rfl
  | cons p m =>
    obtain ⟨k, w⟩ := p
    simp only [Memory.wfFrom, Bool.and_eq_true, decide_eq_true_eq] at hm ⊢
    exact ⟨⟨by omega, hm.1.2⟩, hm.2⟩

theorem Memory.wfFrom_store (m : Memory) (lo a : Nat) (v : Byte) (hlo : lo ≤ a) (ha : a < 65536)
    (hm : Memory.wfFrom lo m = true) : Memory.wfFrom lo (m.store a v) = true := by
  induction m generalizing lo with
  | nil => simp [Memory.store, Memory.wfFrom, Config.memSize, hlo, ha]
  | cons p m ih =>
    obtain ⟨k, w⟩ := p
    simp only [Memory.wfFrom, Bool.and_eq_true, decide_eq_true_eq, Config.memSize] at hm
    obtain ⟨⟨h1, h2⟩, h3⟩ := hm
    by_cases hk : a < k
    · simp only [Memory.store, hk, if_true, Memory.wfFrom, Bool.and_eq_true, decide_eq_true_eq, Config.memSize]
      exact ⟨⟨hlo, decide_eq_true ha⟩, ⟨by omega, by simpa using h2⟩, h3⟩
    · by_cases hk' : a = k
      · subst hk'
        simp only [Memory.store, lt_irrefl, if_false, if_true, Memory.wfFrom, Bool.and_eq_true, decide_eq_true_eq,
          Config.memSize]
        exact ⟨⟨hlo, decide_eq_true ha⟩, h3⟩
      · simp only [Memory.store, hk, hk', if_false, Memory.wfFrom, Bool.and_eq_true, decide_eq_true_eq,
          Config.memSize]
        exact ⟨⟨h1, h2⟩, ih (k + 1) (by omega) h3⟩

/-- A store at an address of the space keeps the canonical form. -/
theorem Memory.wf_store (m : Memory) (a : Word) (v : Byte) (h : m.wf = true) : (m.store a.toNat v).wf = true :=
  Memory.wfFrom_store m 0 a.toNat v (Nat.zero_le _) a.isLt h

theorem Memory.lookup_none_of_lt (m : Memory) (lo a : Nat) (h : a < lo) (hm : Memory.wfFrom lo m = true) :
    m.lookup a = none := by
  induction m generalizing lo with
  | nil => rfl
  | cons p m ih =>
    obtain ⟨k, w⟩ := p
    simp only [Memory.wfFrom, Bool.and_eq_true, decide_eq_true_eq] at hm
    have : k ≠ a := by omega
    simp only [Memory.lookup, this, if_false]
    exact ih (k + 1) (by omega) hm.2

/-- Canonical memories that list the same bytes are the same list. -/
theorem Memory.ext_of_wfFrom (m m' : Memory) (lo lo' : Nat) (h : Memory.wfFrom lo m = true)
    (h' : Memory.wfFrom lo' m' = true) (he : ∀ a, m.lookup a = m'.lookup a) : m = m' := by
  induction m generalizing lo lo' m' with
  | nil =>
    cases m' with
    | nil => rfl
    | cons p m' =>
      have := he p.1
      simp [Memory.lookup] at this
  | cons p m ih =>
    obtain ⟨k, w⟩ := p
    cases m' with
    | nil =>
      have := he k
      simp [Memory.lookup] at this
    | cons p' m' =>
      obtain ⟨k', w'⟩ := p'
      simp only [Memory.wfFrom, Bool.and_eq_true, decide_eq_true_eq] at h h'
      have hk : k = k' := by
        rcases Nat.lt_trichotomy k k' with hl | he' | hg
        · have h1 := he k
          have h2 : Memory.lookup m' k = none := Memory.lookup_none_of_lt m' (k' + 1) k (by omega) h'.2
          have h3 : k' ≠ k := by omega
          simp [Memory.lookup, h2, h3] at h1
        · exact he'
        · have h1 := he k'
          have h2 : Memory.lookup m k' = none := Memory.lookup_none_of_lt m (k + 1) k' (by omega) h.2
          have h3 : k ≠ k' := by omega
          simp [Memory.lookup, h2, h3] at h1
      subst hk
      have hw := he k
      simp only [Memory.lookup, if_true, Option.some.injEq] at hw
      have hrest : m = m' := by
        apply ih m' (k + 1) (k + 1) h.2 h'.2
        intro a
        by_cases ha : a < k + 1
        · rw [Memory.lookup_none_of_lt m (k + 1) a ha h.2, Memory.lookup_none_of_lt m' (k + 1) a ha h'.2]
        · have h1 := he a
          have h2 : k ≠ a := by omega
          simpa [Memory.lookup, h2] using h1
      rw [hw, hrest]

/-! ## The primitives -/

@[simp] theorem State.memWrite_memRead_same (s : State) (a : Word) (v : Byte) : (s.memWrite a v).memRead a = v := by
  simp [State.memRead, State.memWrite]

theorem State.memWrite_memRead_other (s : State) (a b : Word) (v : Byte) (h : b ≠ a) :
    (s.memWrite a v).memRead b = s.memRead b := by
  have hn : b.toNat ≠ a.toNat := fun he => h (BitVec.eq_of_toNat_eq he)
  simp [State.memRead, State.memWrite, Memory.lookup_store_other _ _ _ _ hn]

theorem State.memWrite_memRead (s : State) (a b : Word) (v : Byte) :
    (s.memWrite a v).memRead b = if b = a then v else s.memRead b := by
  split
  · subst b
    simp
  · exact State.memWrite_memRead_other _ _ _ _ ‹_›

/-- Two neighbouring addresses differ, also across the wrap. -/
theorem succ_ne_self (a : Word) : a + 1 ≠ a := by
  intro h
  have h1 : (a + 1).toNat = a.toNat := by rw [h]
  rw [BitVec.toNat_add] at h1
  have h2 : (1 : Word).toNat = 1 := rfl
  have := a.isLt
  omega

theorem State.memWrite16_memRead (s : State) (a v b : Word) :
    (s.memWrite16 a v).memRead b
      = if b = a + 1 then hi8 v else if b = a then lo8 v else s.memRead b := by
  simp [State.memWrite16, State.memWrite_memRead]

theorem State.push16_memRead (s : State) (v b : Word) :
    (s.push16 v).memRead b
      = if b = s.sp - 1 - 1 then lo8 v else if b = s.sp - 1 then hi8 v else s.memRead b := by
  simp [State.push16, State.memWrite_memRead]

end Sys2Proof.Machine
end

