-- ==== Sys2Proof/Laws/Regs.lean ====
section
/-! SUPPORT. Laws of the register file: what each alias and flag reads after each write (10_state.md R21, R22, R23). -/

namespace Sys2Proof.Machine

variable (s : State)

@[simp] theorem State.setA_a (v : Byte) : (s.setA v).a = v := by simp [State.a, State.setA]
@[simp] theorem State.setA_f (v : Byte) : (s.setA v).f = s.f := by simp [State.f, State.setA]
@[simp] theorem State.setA_b (v : Byte) : (s.setA v).b = s.b := rfl
@[simp] theorem State.setA_c (v : Byte) : (s.setA v).c = s.c := rfl
@[simp] theorem State.setA_d (v : Byte) : (s.setA v).d = s.d := rfl
@[simp] theorem State.setA_e (v : Byte) : (s.setA v).e = s.e := rfl
@[simp] theorem State.setA_h (v : Byte) : (s.setA v).h = s.h := rfl
@[simp] theorem State.setA_l (v : Byte) : (s.setA v).l = s.l := rfl

@[simp] theorem State.setF_a (v : Byte) : (s.setF v).a = s.a := by simp [State.a, State.setF]
@[simp] theorem State.setF_f (v : Byte) : (s.setF v).f = v &&& 0xF0 := by simp [State.f, State.setF]
@[simp] theorem State.setF_b (v : Byte) : (s.setF v).b = s.b := rfl
@[simp] theorem State.setF_c (v : Byte) : (s.setF v).c = s.c := rfl
@[simp] theorem State.setF_d (v : Byte) : (s.setF v).d = s.d := rfl
@[simp] theorem State.setF_e (v : Byte) : (s.setF v).e = s.e := rfl
@[simp] theorem State.setF_h (v : Byte) : (s.setF v).h = s.h := rfl
@[simp] theorem State.setF_l (v : Byte) : (s.setF v).l = s.l := rfl

@[simp] theorem State.setB_a (v : Byte) : (s.setB v).a = s.a := rfl
@[simp] theorem State.setB_f (v : Byte) : (s.setB v).f = s.f := rfl
@[simp] theorem State.setB_b (v : Byte) : (s.setB v).b = v := by simp [State.b, State.setB]
@[simp] theorem State.setB_c (v : Byte) : (s.setB v).c = s.c := by simp [State.c, State.setB]
@[simp] theorem State.setB_d (v : Byte) : (s.setB v).d = s.d := rfl
@[simp] theorem State.setB_e (v : Byte) : (s.setB v).e = s.e := rfl
@[simp] theorem State.setB_h (v : Byte) : (s.setB v).h = s.h := rfl
@[simp] theorem State.setB_l (v : Byte) : (s.setB v).l = s.l := rfl

@[simp] theorem State.setC_a (v : Byte) : (s.setC v).a = s.a := rfl
@[simp] theorem State.setC_f (v : Byte) : (s.setC v).f = s.f := rfl
@[simp] theorem State.setC_b (v : Byte) : (s.setC v).b = s.b := by simp [State.b, State.setC]
@[simp] theorem State.setC_c (v : Byte) : (s.setC v).c = v := by simp [State.c, State.setC]
@[simp] theorem State.setC_d (v : Byte) : (s.setC v).d = s.d := rfl
@[simp] theorem State.setC_e (v : Byte) : (s.setC v).e = s.e := rfl
@[simp] theorem State.setC_h (v : Byte) : (s.setC v).h = s.h := rfl
@[simp] theorem State.setC_l (v : Byte) : (s.setC v).l = s.l := rfl

@[simp] theorem State.setD_a (v : Byte) : (s.setD v).a = s.a := rfl
@[simp] theorem State.setD_f (v : Byte) : (s.setD v).f = s.f := rfl
@[simp] theorem State.setD_b (v : Byte) : (s.setD v).b = s.b := rfl
@[simp] theorem State.setD_c (v : Byte) : (s.setD v).c = s.c := rfl
@[simp] theorem State.setD_d (v : Byte) : (s.setD v).d = v := by simp [State.d, State.setD]
@[simp] theorem State.setD_e (v : Byte) : (s.setD v).e = s.e := by simp [State.e, State.setD]
@[simp] theorem State.setD_h (v : Byte) : (s.setD v).h = s.h := rfl
@[simp] theorem State.setD_l (v : Byte) : (s.setD v).l = s.l := rfl

@[simp] theorem State.setE_a (v : Byte) : (s.setE v).a = s.a := rfl
@[simp] theorem State.setE_f (v : Byte) : (s.setE v).f = s.f := rfl
@[simp] theorem State.setE_b (v : Byte) : (s.setE v).b = s.b := rfl
@[simp] theorem State.setE_c (v : Byte) : (s.setE v).c = s.c := rfl
@[simp] theorem State.setE_d (v : Byte) : (s.setE v).d = s.d := by simp [State.d, State.setE]
@[simp] theorem State.setE_e (v : Byte) : (s.setE v).e = v := by simp [State.e, State.setE]
@[simp] theorem State.setE_h (v : Byte) : (s.setE v).h = s.h := rfl
@[simp] theorem State.setE_l (v : Byte) : (s.setE v).l = s.l := rfl

@[simp] theorem State.setH_a (v : Byte) : (s.setH v).a = s.a := rfl
@[simp] theorem State.setH_f (v : Byte) : (s.setH v).f = s.f := rfl
@[simp] theorem State.setH_b (v : Byte) : (s.setH v).b = s.b := rfl
@[simp] theorem State.setH_c (v : Byte) : (s.setH v).c = s.c := rfl
@[simp] theorem State.setH_d (v : Byte) : (s.setH v).d = s.d := rfl
@[simp] theorem State.setH_e (v : Byte) : (s.setH v).e = s.e := rfl
@[simp] theorem State.setH_h (v : Byte) : (s.setH v).h = v := by simp [State.h, State.setH]
@[simp] theorem State.setH_l (v : Byte) : (s.setH v).l = s.l := by simp [State.l, State.setH]

@[simp] theorem State.setL_a (v : Byte) : (s.setL v).a = s.a := rfl
@[simp] theorem State.setL_f (v : Byte) : (s.setL v).f = s.f := rfl
@[simp] theorem State.setL_b (v : Byte) : (s.setL v).b = s.b := rfl
@[simp] theorem State.setL_c (v : Byte) : (s.setL v).c = s.c := rfl
@[simp] theorem State.setL_d (v : Byte) : (s.setL v).d = s.d := rfl
@[simp] theorem State.setL_e (v : Byte) : (s.setL v).e = s.e := rfl
@[simp] theorem State.setL_h (v : Byte) : (s.setL v).h = s.h := by simp [State.h, State.setL]
@[simp] theorem State.setL_l (v : Byte) : (s.setL v).l = v := by simp [State.l, State.setL]

@[simp] theorem State.setBc_a (v : Word) : (s.setBc v).a = s.a := rfl
@[simp] theorem State.setBc_f (v : Word) : (s.setBc v).f = s.f := rfl
@[simp] theorem State.setBc_b (v : Word) : (s.setBc v).b = hi8 v := rfl
@[simp] theorem State.setBc_c (v : Word) : (s.setBc v).c = lo8 v := rfl
@[simp] theorem State.setBc_d (v : Word) : (s.setBc v).d = s.d := rfl
@[simp] theorem State.setBc_e (v : Word) : (s.setBc v).e = s.e := rfl
@[simp] theorem State.setBc_h (v : Word) : (s.setBc v).h = s.h := rfl
@[simp] theorem State.setBc_l (v : Word) : (s.setBc v).l = s.l := rfl

@[simp] theorem State.setDe_a (v : Word) : (s.setDe v).a = s.a := rfl
@[simp] theorem State.setDe_f (v : Word) : (s.setDe v).f = s.f := rfl
@[simp] theorem State.setDe_b (v : Word) : (s.setDe v).b = s.b := rfl
@[simp] theorem State.setDe_c (v : Word) : (s.setDe v).c = s.c := rfl
@[simp] theorem State.setDe_d (v : Word) : (s.setDe v).d = hi8 v := rfl
@[simp] theorem State.setDe_e (v : Word) : (s.setDe v).e = lo8 v := rfl
@[simp] theorem State.setDe_h (v : Word) : (s.setDe v).h = s.h := rfl
@[simp] theorem State.setDe_l (v : Word) : (s.setDe v).l = s.l := rfl

@[simp] theorem State.setHl_a (v : Word) : (s.setHl v).a = s.a := rfl
@[simp] theorem State.setHl_f (v : Word) : (s.setHl v).f = s.f := rfl
@[simp] theorem State.setHl_b (v : Word) : (s.setHl v).b = s.b := rfl
@[simp] theorem State.setHl_c (v : Word) : (s.setHl v).c = s.c := rfl
@[simp] theorem State.setHl_d (v : Word) : (s.setHl v).d = s.d := rfl
@[simp] theorem State.setHl_e (v : Word) : (s.setHl v).e = s.e := rfl
@[simp] theorem State.setHl_h (v : Word) : (s.setHl v).h = hi8 v := rfl
@[simp] theorem State.setHl_l (v : Word) : (s.setHl v).l = lo8 v := rfl

@[simp] theorem State.setSp_a (v : Word) : (s.setSp v).a = s.a := rfl
@[simp] theorem State.setSp_f (v : Word) : (s.setSp v).f = s.f := rfl
@[simp] theorem State.setSp_b (v : Word) : (s.setSp v).b = s.b := rfl
@[simp] theorem State.setSp_c (v : Word) : (s.setSp v).c = s.c := rfl
@[simp] theorem State.setSp_d (v : Word) : (s.setSp v).d = s.d := rfl
@[simp] theorem State.setSp_e (v : Word) : (s.setSp v).e = s.e := rfl
@[simp] theorem State.setSp_h (v : Word) : (s.setSp v).h = s.h := rfl
@[simp] theorem State.setSp_l (v : Word) : (s.setSp v).l = s.l := rfl

@[simp] theorem State.setPc_a (v : Word) : (s.setPc v).a = s.a := rfl
@[simp] theorem State.setPc_f (v : Word) : (s.setPc v).f = s.f := rfl
@[simp] theorem State.setPc_b (v : Word) : (s.setPc v).b = s.b := rfl
@[simp] theorem State.setPc_c (v : Word) : (s.setPc v).c = s.c := rfl
@[simp] theorem State.setPc_d (v : Word) : (s.setPc v).d = s.d := rfl
@[simp] theorem State.setPc_e (v : Word) : (s.setPc v).e = s.e := rfl
@[simp] theorem State.setPc_h (v : Word) : (s.setPc v).h = s.h := rfl
@[simp] theorem State.setPc_l (v : Word) : (s.setPc v).l = s.l := rfl

@[simp] theorem State.setIme_a (v : Bool) : (s.setIme v).a = s.a := rfl
@[simp] theorem State.setIme_f (v : Bool) : (s.setIme v).f = s.f := rfl
@[simp] theorem State.setIme_b (v : Bool) : (s.setIme v).b = s.b := rfl
@[simp] theorem State.setIme_c (v : Bool) : (s.setIme v).c = s.c := rfl
@[simp] theorem State.setIme_d (v : Bool) : (s.setIme v).d = s.d := rfl
@[simp] theorem State.setIme_e (v : Bool) : (s.setIme v).e = s.e := rfl
@[simp] theorem State.setIme_h (v : Bool) : (s.setIme v).h = s.h := rfl
@[simp] theorem State.setIme_l (v : Bool) : (s.setIme v).l = s.l := rfl

@[simp] theorem State.setRun_a (v : RunState) : (s.setRun v).a = s.a := rfl
@[simp] theorem State.setRun_f (v : RunState) : (s.setRun v).f = s.f := rfl
@[simp] theorem State.setRun_b (v : RunState) : (s.setRun v).b = s.b := rfl
@[simp] theorem State.setRun_c (v : RunState) : (s.setRun v).c = s.c := rfl
@[simp] theorem State.setRun_d (v : RunState) : (s.setRun v).d = s.d := rfl
@[simp] theorem State.setRun_e (v : RunState) : (s.setRun v).e = s.e := rfl
@[simp] theorem State.setRun_h (v : RunState) : (s.setRun v).h = s.h := rfl
@[simp] theorem State.setRun_l (v : RunState) : (s.setRun v).l = s.l := rfl

@[simp] theorem State.memWrite_a (x : Word) (v : Byte) : (s.memWrite x v).a = s.a := rfl
@[simp] theorem State.memWrite_f (x : Word) (v : Byte) : (s.memWrite x v).f = s.f := rfl
@[simp] theorem State.memWrite_b (x : Word) (v : Byte) : (s.memWrite x v).b = s.b := rfl
@[simp] theorem State.memWrite_c (x : Word) (v : Byte) : (s.memWrite x v).c = s.c := rfl
@[simp] theorem State.memWrite_d (x : Word) (v : Byte) : (s.memWrite x v).d = s.d := rfl
@[simp] theorem State.memWrite_e (x : Word) (v : Byte) : (s.memWrite x v).e = s.e := rfl
@[simp] theorem State.memWrite_h (x : Word) (v : Byte) : (s.memWrite x v).h = s.h := rfl
@[simp] theorem State.memWrite_l (x : Word) (v : Byte) : (s.memWrite x v).l = s.l := rfl
@[simp] theorem State.memWrite16_a (x v : Word) : (s.memWrite16 x v).a = s.a := rfl
@[simp] theorem State.memWrite16_f (x v : Word) : (s.memWrite16 x v).f = s.f := rfl
@[simp] theorem State.memWrite16_b (x v : Word) : (s.memWrite16 x v).b = s.b := rfl
@[simp] theorem State.memWrite16_c (x v : Word) : (s.memWrite16 x v).c = s.c := rfl
@[simp] theorem State.memWrite16_d (x v : Word) : (s.memWrite16 x v).d = s.d := rfl
@[simp] theorem State.memWrite16_e (x v : Word) : (s.memWrite16 x v).e = s.e := rfl
@[simp] theorem State.memWrite16_h (x v : Word) : (s.memWrite16 x v).h = s.h := rfl
@[simp] theorem State.memWrite16_l (x v : Word) : (s.memWrite16 x v).l = s.l := rfl
@[simp] theorem State.push16_a (v : Word) : (s.push16 v).a = s.a := rfl
@[simp] theorem State.push16_f (v : Word) : (s.push16 v).f = s.f := rfl
@[simp] theorem State.push16_b (v : Word) : (s.push16 v).b = s.b := rfl
@[simp] theorem State.push16_c (v : Word) : (s.push16 v).c = s.c := rfl
@[simp] theorem State.push16_d (v : Word) : (s.push16 v).d = s.d := rfl
@[simp] theorem State.push16_e (v : Word) : (s.push16 v).e = s.e := rfl
@[simp] theorem State.push16_h (v : Word) : (s.push16 v).h = s.h := rfl
@[simp] theorem State.push16_l (v : Word) : (s.push16 v).l = s.l := rfl

@[simp] theorem State.setFlags_a (g : Flags) : (s.setFlags g).a = s.a := by simp [State.a, State.setFlags]
@[simp] theorem State.setFlags_f (g : Flags) : (s.setFlags g).f = withFlagBits s.f g := by
  simp [State.f, State.setFlags]
@[simp] theorem State.setFlags_b (g : Flags) : (s.setFlags g).b = s.b := rfl
@[simp] theorem State.setFlags_c (g : Flags) : (s.setFlags g).c = s.c := rfl
@[simp] theorem State.setFlags_d (g : Flags) : (s.setFlags g).d = s.d := rfl
@[simp] theorem State.setFlags_e (g : Flags) : (s.setFlags g).e = s.e := rfl
@[simp] theorem State.setFlags_h (g : Flags) : (s.setFlags g).h = s.h := rfl
@[simp] theorem State.setFlags_l (g : Flags) : (s.setFlags g).l = s.l := rfl

theorem State.flags_of_f {s t : State} (h : t.f = s.f) : t.flags = s.flags := by
  simp [State.flags, State.fZ, State.fN, State.fH, State.fC, h]

/-- The flags read back as they were written. -/
@[simp] theorem State.setFlags_flags (g : Flags) : (s.setFlags g).flags = g := by
  simp only [State.flags, State.fZ, State.fN, State.fH, State.fC, State.setFlags_f, withFlagBits_bit7,
    withFlagBits_bit6, withFlagBits_bit5, withFlagBits_bit4]

/-- AF read whole is its two aliases. -/
theorem State.af_eq_join : s.af = join s.a s.f := by simp [State.a, State.f]

@[simp] theorem State.setAf_a (v : Word) : (s.setAf v).a = hi8 v := by
  apply byte_ext
  intro i hi
  simp only [State.a, State.setAf_af, getLsbD_hi8 _ _ hi]
  have : i = 0 ∨ i = 1 ∨ i = 2 ∨ i = 3 ∨ i = 4 ∨ i = 5 ∨ i = 6 ∨ i = 7 := by omega
  rcases this with rfl | rfl | rfl | rfl | rfl | rfl | rfl | rfl <;> simp

/-- `AF <- v` drops the low nibble of the low byte (R23). -/
@[simp] theorem State.setAf_f (v : Word) : (s.setAf v).f = lo8 v &&& 0xF0 := by
  apply byte_ext
  intro i hi
  simp only [State.f, State.setAf_af, getLsbD_lo8 _ _ hi, BitVec.getLsbD_and]
  have : i = 0 ∨ i = 1 ∨ i = 2 ∨ i = 3 ∨ i = 4 ∨ i = 5 ∨ i = 6 ∨ i = 7 := by omega
  rcases this with rfl | rfl | rfl | rfl | rfl | rfl | rfl | rfl <;> simp
@[simp] theorem State.setAf_b (v : Word) : (s.setAf v).b = s.b := rfl
@[simp] theorem State.setAf_c (v : Word) : (s.setAf v).c = s.c := rfl
@[simp] theorem State.setAf_d (v : Word) : (s.setAf v).d = s.d := rfl
@[simp] theorem State.setAf_e (v : Word) : (s.setAf v).e = s.e := rfl
@[simp] theorem State.setAf_h (v : Word) : (s.setAf v).h = s.h := rfl
@[simp] theorem State.setAf_l (v : Word) : (s.setAf v).l = s.l := rfl

end Sys2Proof.Machine
end

