-- ==== Sys2Proof/Laws/Ops.lean ====
section
/-! SUPPORT. What each shared operation can do, said once: operand writes, flag writes, pushes and pops, in the words of
Safety.lean (Frame, FlagsBecome) and for the invariant. -/

namespace Sys2Proof.Machine

variable (s : State)

/-! ## Operands -/

/-- An operand reads back as written, `(HL)` included (10_state.md R24). -/
@[simp] theorem State.r8set_r8get (r : R8) (v : Byte) : (s.r8set r v).r8get r = v := by
  cases r <;> simp [State.r8set, State.r8get]

@[simp] theorem State.r8set_f (r : R8) (v : Byte) : (s.r8set r v).f = s.f := by
  cases r <;> simp [State.r8set]

@[simp] theorem State.r8set_flags (r : R8) (v : Byte) : (s.r8set r v).flags = s.flags :=
  State.flags_of_f (State.r8set_f s r v)

@[simp] theorem State.r8set_sp (r : R8) (v : Byte) : (s.r8set r v).sp = s.sp := by cases r <;> rfl
@[simp] theorem State.r8set_pc (r : R8) (v : Byte) : (s.r8set r v).pc = s.pc := by cases r <;> rfl
@[simp] theorem State.r8set_ime (r : R8) (v : Byte) : (s.r8set r v).ime = s.ime := by cases r <;> rfl
@[simp] theorem State.r8set_run (r : R8) (v : Byte) : (s.r8set r v).run = s.run := by cases r <;> rfl

/-- A flag write changes no 8-bit operand: `F` is not in the table (R24). -/
@[simp] theorem State.setFlags_r8get (g : Flags) (r : R8) : (s.setFlags g).r8get r = s.r8get r := by
  cases r <;> simp [State.r8get]

/-- A write of an operand changes that alias, or the byte at `hl`, and nothing else. -/
theorem State.r8set_frame (r : R8) (v : Byte) : Frame r.alias8 (r.stored s) s (s.r8set r v) where
  regs q hq := by cases r <;> cases q <;> simp_all [State.r8set, State.reg8, R8.alias8]
  mem x hx := by
    cases r <;> simp_all [State.r8set, R8.stored, State.memWrite_memRead]
  ime := by simp
  run := by simp

/-- A flag write changes `F` and nothing else. -/
theorem State.setFlags_frame (g : Flags) : Frame [.f] [] s (s.setFlags g) where
  regs q hq := by cases q <;> simp_all [State.reg8]
  mem x hx := by simp
  ime := by simp
  run := by simp

theorem State.setFlags_flagsBecome (g : Flags) : FlagsBecome g s (s.setFlags g) where
  flags := by simp
  lowNibble := by simp

end Sys2Proof.Machine

namespace Sys2Proof

open Sys2Proof.Machine

theorem Frame.refl (regs : List Reg8) (stored : List Word) (s : State) : Frame regs stored s s :=
  ⟨fun _ _ => rfl, fun _ _ => rfl, rfl, rfl⟩

/-- Two changes one after the other change no more than both together. -/
theorem Frame.trans {r1 r2 : List Reg8} {m1 m2 : List Word} {s t u : State} (h1 : Frame r1 m1 s t)
    (h2 : Frame r2 m2 t u) : Frame (r1 ++ r2) (m1 ++ m2) s u where
  regs q hq := by
    simp only [List.mem_append, not_or] at hq
    rw [h2.regs q hq.2, h1.regs q hq.1]
  mem x hx := by
    simp only [List.mem_append, not_or] at hx
    rw [h2.mem x hx.2, h1.mem x hx.1]
  ime := by rw [h2.ime, h1.ime]
  run := by rw [h2.run, h1.run]

/-- A frame may be widened. -/
theorem Frame.mono {r1 r2 : List Reg8} {m1 m2 : List Word} {s t : State} (h : Frame r1 m1 s t)
    (hr : ∀ q, q ∈ r1 → q ∈ r2) (hm : ∀ x, x ∈ m1 → x ∈ m2) : Frame r2 m2 s t where
  regs q hq := h.regs q (fun hh => hq (hr q hh))
  mem x hx := h.mem x (fun hh => hx (hm x hh))
  ime := h.ime
  run := h.run

/-! ## The invariant -/

/-- Writing flags keeps the low nibble of `F`. -/
theorem Inv_setFlags {s : State} (h : s.Inv) (g : Flags) : (s.setFlags g).Inv :=
  ⟨by simpa using h.1, h.2⟩

theorem Inv_memWrite {s : State} (h : s.Inv) (a : Word) (v : Byte) : (s.memWrite a v).Inv :=
  ⟨h.1, Memory.wf_store _ _ _ h.2⟩

theorem Inv_r8set {s : State} (h : s.Inv) (r : R8) (v : Byte) : (s.r8set r v).Inv := by
  cases r <;> first
    | exact Inv_memWrite h _ _
    | exact ⟨by simpa [State.r8set] using h.1, h.2⟩

/-- `F & 0xF0` has a zero low nibble. -/
theorem maskF_lowNibble (v : Byte) : v &&& 0xF0 &&& 0x0F = 0 := by
  apply byte_ext
  intro i hi
  have : i = 0 ∨ i = 1 ∨ i = 2 ∨ i = 3 ∨ i = 4 ∨ i = 5 ∨ i = 6 ∨ i = 7 := by omega
  rcases this with rfl | rfl | rfl | rfl | rfl | rfl | rfl | rfl <;> simp

theorem Inv_setAf {s : State} (h : s.Inv) (v : Word) : (s.setAf v).Inv :=
  ⟨by rw [State.setAf_f]; exact maskF_lowNibble _, h.2⟩

theorem Inv_setPc {s : State} (h : s.Inv) (v : Word) : (s.setPc v).Inv := h

end Sys2Proof
end

