-- ==== Sys2Proof/Laws/Effects.lean ====
section
/-! SUPPORT. What each shared operation of the instruction families does, said once: the value it leaves, the flags, all
that stays, and the invariant kept. Statements about instructions cite these and unfold nothing. -/

namespace Sys2Proof

open Sys2Proof.Machine

/-- The change from `s` to `t` writes the four flags `g`, and beside them only the aliases `regs` and the bytes
`stored`; `sp` and `pc` stay. -/
structure FlagEffect (regs : List Reg8) (stored : List Word) (g : Flags) (s t : State) : Prop where
  flags : FlagsBecome g s t
  frame : Frame regs stored s t
  sp : t.sp = s.sp
  pc : t.pc = s.pc

namespace Machine

variable (s : State)

/-! ## The three shapes -/

/-- `A` and the flags written. -/
theorem setA_setFlags_effect (v : Byte) (g : Flags) :
    ((s.setA v).setFlags g).a = v ∧ FlagEffect [.a, .f] [] g s ((s.setA v).setFlags g) where
  left := by simp
  right :=
    { flags := ⟨by simp, by simp⟩
      frame := (State.r8set_frame s .a v).trans (State.setFlags_frame _ g)
      sp := rfl
      pc := rfl }

/-- An 8-bit operand and the flags written, `(HL)` included. -/
theorem r8set_setFlags_effect (r : R8) (v : Byte) (g : Flags) :
    ((s.r8set r v).setFlags g).r8get r = v ∧
    FlagEffect (.f :: r.alias8) (r.stored s) g s ((s.r8set r v).setFlags g) where
  left := by simp
  right :=
    { flags := ⟨by simp, by simp⟩
      frame := ((State.r8set_frame s r v).trans (State.setFlags_frame _ g)).mono
        (fun q hq => by simpa [or_comm] using hq) (by simp)
      sp := by simp
      pc := by simp }

/-- Flags alone written. -/
theorem setFlags_effect (g : Flags) : FlagEffect [.f] [] g s (s.setFlags g) where
  flags := State.setFlags_flagsBecome s g
  frame := State.setFlags_frame s g
  sp := rfl
  pc := rfl

/-- `hl` and the flags written. -/
theorem setHl_setFlags_effect (v : Word) (g : Flags) :
    ((s.setHl v).setFlags g).hl = v ∧ FlagEffect [.h, .l, .f] [] g s ((s.setHl v).setFlags g) where
  left := rfl
  right :=
    { flags := ⟨by simp, by simp⟩
      frame := ⟨fun q hq => by cases q <;> simp_all [State.reg8], fun _ _ => rfl, rfl, rfl⟩
      sp := rfl
      pc := rfl }

/-! ## The ALU group (45_alu8.md) and the accumulator operations (43_acc_rotate_misc.md) -/

theorem aluAdd_effect (x : Byte) : (s.aluAdd x).a = s.a + x ∧
    FlagEffect [.a, .f] [] (addFlags s.a x false) s (s.aluAdd x) := setA_setFlags_effect s _ _
theorem aluAdc_effect (x : Byte) : (s.aluAdc x).a = s.a + x + BitVec.ofNat 8 s.fC.toNat ∧
    FlagEffect [.a, .f] [] (addFlags s.a x s.fC) s (s.aluAdc x) := setA_setFlags_effect s _ _
theorem aluSub_effect (x : Byte) : (s.aluSub x).a = s.a - x ∧
    FlagEffect [.a, .f] [] (subFlags s.a x false) s (s.aluSub x) := setA_setFlags_effect s _ _
theorem aluSbc_effect (x : Byte) : (s.aluSbc x).a = s.a - x - BitVec.ofNat 8 s.fC.toNat ∧
    FlagEffect [.a, .f] [] (subFlags s.a x s.fC) s (s.aluSbc x) := setA_setFlags_effect s _ _
theorem aluAnd_effect (x : Byte) : (s.aluAnd x).a = s.a &&& x ∧
    FlagEffect [.a, .f] [] (andFlags (s.a &&& x)) s (s.aluAnd x) := setA_setFlags_effect s _ _
theorem aluXor_effect (x : Byte) : (s.aluXor x).a = s.a ^^^ x ∧
    FlagEffect [.a, .f] [] (orFlags (s.a ^^^ x)) s (s.aluXor x) := setA_setFlags_effect s _ _
theorem aluOr_effect (x : Byte) : (s.aluOr x).a = s.a ||| x ∧
    FlagEffect [.a, .f] [] (orFlags (s.a ||| x)) s (s.aluOr x) := setA_setFlags_effect s _ _
theorem aluCp_effect (x : Byte) : FlagEffect [.f] [] (subFlags s.a x false) s (s.aluCp x) := setFlags_effect s _

theorem rotateA_effect (op : Byte → Byte × Bool) : (s.rotateA op).a = (op s.a).1 ∧
    FlagEffect [.a, .f] [] (rotateAFlags (op s.a).2) s (s.rotateA op) := setA_setFlags_effect s _ _
theorem decimalAdjust_effect : s.decimalAdjust.a = daaResult s.a s.flags ∧
    FlagEffect [.a, .f] [] (daaFlags s.a s.flags) s s.decimalAdjust := setA_setFlags_effect s _ _
theorem complementA_effect : s.complementA.a = s.a ^^^ 0xFF ∧
    FlagEffect [.a, .f] [] { s.flags with n := true, h := true } s s.complementA := setA_setFlags_effect s _ _
theorem setCarryFlag_effect :
    FlagEffect [.f] [] { s.flags with n := false, h := false, c := true } s s.setCarryFlag := setFlags_effect s _
theorem complementCarryFlag_effect :
    FlagEffect [.f] [] { s.flags with n := false, h := false, c := !s.fC } s s.complementCarryFlag :=
  setFlags_effect s _

/-! ## Increment, decrement, 16-bit sums (42_incdec_add16.md), LD HL,SP+e8, POP (41_load16_stack.md) -/

theorem incR8_effect (r : R8) : (s.incR8 r).r8get r = s.r8get r + 1 ∧
    FlagEffect (.f :: r.alias8) (r.stored s) (incFlags (s.r8get r) s.flags) s (s.incR8 r) :=
  r8set_setFlags_effect s r _ _
theorem decR8_effect (r : R8) : (s.decR8 r).r8get r = s.r8get r - 1 ∧
    FlagEffect (.f :: r.alias8) (r.stored s) (decFlags (s.r8get r) s.flags) s (s.decR8 r) :=
  r8set_setFlags_effect s r _ _
theorem addHl_effect (v : Word) : (s.addHl v).hl = s.hl + v ∧
    FlagEffect [.h, .l, .f] [] (addHlFlags s.hl v s.flags) s (s.addHl v) := setHl_setFlags_effect s _ _
theorem loadHlSpPlus_effect (e : Byte) : (s.loadHlSpPlus e).hl = s.sp + sext16 e ∧
    FlagEffect [.h, .l, .f] [] (spPlusFlags s.sp e) s (s.loadHlSpPlus e) := setHl_setFlags_effect s _ _

/-- ADD SP,e8: `sp` and the flags. -/
theorem addSp_effect (e : Byte) : (s.addSp e).sp = s.sp + sext16 e ∧
    FlagsBecome (spPlusFlags s.sp e) s (s.addSp e) ∧ Frame [.f] [] s (s.addSp e) ∧ (s.addSp e).pc = s.pc :=
  ⟨rfl, ⟨by simp [State.addSp], by simp [State.addSp]⟩,
    ⟨fun q hq => by cases q <;> simp_all [State.reg8, State.addSp], fun _ _ => rfl, rfl, rfl⟩, rfl⟩

/-- A write of a pair changes its aliases, or `sp`, and nothing else. -/
theorem pairSet_effect (p : Pair) (v : Word) : (s.pairSet p v).pairGet p = v ∧
    Frame p.aliases8 [] s (s.pairSet p v) ∧ (p ≠ .sp → (s.pairSet p v).sp = s.sp) ∧ (s.pairSet p v).pc = s.pc := by
  refine ⟨by cases p <;> rfl, ⟨fun q hq => ?_, fun x _ => ?_, ?_, ?_⟩, fun hp => ?_, ?_⟩
  · cases p <;> cases q <;> simp_all [State.reg8, State.pairSet, Pair.aliases8]
  all_goals cases p <;> first | rfl | exact absurd rfl hp

/-- POP: the pair is the popped word, masked for AF; `sp` rises by 2. -/
theorem popPair_effect (p : StackPair) :
    (s.popPair p).stackPairGet p = (if p = .af then s.popValue &&& 0xFFF0 else s.popValue) ∧
    Frame p.aliases8 [] s (s.popPair p) ∧ (s.popPair p).sp = s.sp + 1 + 1 ∧ (s.popPair p).pc = s.pc := by
  refine ⟨by cases p <;> rfl, ⟨fun q hq => ?_, fun x _ => by cases p <;> rfl, by cases p <;> rfl,
    by cases p <;> rfl⟩, by cases p <;> rfl, by cases p <;> rfl⟩
  cases p <;> cases q <;>
    simp_all [State.reg8, State.popPair, State.stackPairSet, StackPair.aliases8, State.popped]

/-- A push: the two bytes, `sp` lowered by 2, nothing else. -/
theorem push16_effect (v : Word) : (s.push16 v).memRead (s.sp - 1) = hi8 v ∧
    (s.push16 v).memRead (s.sp - 2) = lo8 v ∧ (s.push16 v).sp = s.sp - 2 ∧
    Frame [] [s.sp - 1, s.sp - 2] s (s.push16 v) ∧ (s.push16 v).pc = s.pc := by
  have e2 : s.sp - 1 - 1 = s.sp - 2 := by bv_omega
  have ne : s.sp - 1 ≠ s.sp - 2 := by bv_omega
  refine ⟨?_, ?_, e2, ⟨fun q _ => by cases q <;> rfl, fun x hx => ?_, rfl, rfl⟩, rfl⟩
  · rw [State.push16_memRead, e2, if_neg ne, if_pos rfl]
  · rw [State.push16_memRead, e2, if_pos rfl]
  · simp only [List.mem_cons, List.not_mem_nil, or_false, not_or] at hx
    rw [State.push16_memRead, e2, if_neg hx.2, if_neg hx.1]

/-! ## The extension table (47_cb.md) -/

theorem rotateR8_effect (op : Byte → Byte × Bool) (r : R8) : (s.rotateR8 op r).r8get r = (op (s.r8get r)).1 ∧
    FlagEffect (.f :: r.alias8) (r.stored s) (rotateFlags (op (s.r8get r)).1 (op (s.r8get r)).2) s
      (s.rotateR8 op r) := r8set_setFlags_effect s r _ _
theorem testBit_effect (b : Fin 8) (r : R8) :
    FlagEffect [.f] [] (bitFlags (s.r8get r) b.val s.flags) s (s.testBit b r) := setFlags_effect s _

/-! ## The control operations, taken and not taken (44_control.md) -/

theorem call_effect (a : Word) : (s.call a).pc = a ∧ (s.call a).memRead (s.sp - 1) = hi8 s.pc ∧
    (s.call a).memRead (s.sp - 2) = lo8 s.pc ∧ (s.call a).sp = s.sp - 2 ∧
    Frame [] [s.sp - 1, s.sp - 2] s (s.call a) := by
  obtain ⟨h1, h2, h3, h4, -⟩ := push16_effect s s.pc
  exact ⟨rfl, h1, h2, h3, ⟨h4.regs, h4.mem, rfl, rfl⟩⟩

theorem ret_effect : s.ret.pc = join (s.memRead (s.sp + 1)) (s.memRead s.sp) ∧ s.ret.sp = s.sp + 2 ∧
    Frame [] [] s s.ret :=
  ⟨rfl, by show s.sp + 1 + 1 = s.sp + 2; bv_omega, ⟨fun q _ => by cases q <;> rfl, fun _ _ => rfl, rfl, rfl⟩⟩

theorem callIf_cases (cc : Cond) (a : Word) :
    (s.cond cc = true ∧ s.callIf cc a = s.call a) ∨ (s.cond cc = false ∧ s.callIf cc a = s) := by
  cases h : s.cond cc <;> simp [State.callIf, h]
theorem retIf_cases (cc : Cond) :
    (s.cond cc = true ∧ s.retIf cc = s.ret) ∨ (s.cond cc = false ∧ s.retIf cc = s) := by
  cases h : s.cond cc <;> simp [State.retIf, h]
theorem jumpIf_cases (cc : Cond) (a : Word) :
    (s.cond cc = true ∧ s.jumpIf cc a = s.setPc a) ∨ (s.cond cc = false ∧ s.jumpIf cc a = s) := by
  cases h : s.cond cc <;> simp [State.jumpIf, h]
theorem jumpRelIf_cases (cc : Cond) (e : Byte) :
    (s.cond cc = true ∧ s.jumpRelIf cc e = s.jumpRel e) ∨ (s.cond cc = false ∧ s.jumpRelIf cc e = s) := by
  cases h : s.cond cc <;> simp [State.jumpRelIf, h]
theorem haltIfEnabled_cases :
    (s.ime = true ∧ s.haltIfEnabled = s.setRun .halted) ∨ (s.ime = false ∧ s.haltIfEnabled = s) := by
  cases h : s.ime <;> simp [State.haltIfEnabled, h]

end Machine

/-! ## The invariant is kept by every shared operation -/

variable {s : State}

/-- An operation that leaves the low nibble of `F` and the memory list as they are keeps the invariant. -/
theorem Inv_of_same {t : State} (h : s.Inv) (hf : t.f &&& 0x0F = s.f &&& 0x0F) (hm : t.mem = s.mem) : t.Inv :=
  ⟨hf.trans h.1, by rw [hm]; exact h.2⟩

theorem Inv_push16 (h : s.Inv) (v : Word) : (s.push16 v).Inv :=
  Inv_memWrite (s := (s.setSp (s.sp - 1)).memWrite (s.sp - 1) (hi8 v)) (Inv_memWrite (s := s.setSp (s.sp - 1)) h _ _)
    _ _
theorem Inv_memWrite16 (h : s.Inv) (a v : Word) : (s.memWrite16 a v).Inv := Inv_memWrite (Inv_memWrite h _ _) _ _
theorem Inv_pairSet (h : s.Inv) (p : Pair) (v : Word) : (s.pairSet p v).Inv := by cases p <;> exact h
theorem Inv_popPair (h : s.Inv) (p : StackPair) : (s.popPair p).Inv := by
  cases p <;> first | exact h | exact Inv_setAf (s := s.popped) h _
theorem Inv_call (h : s.Inv) (a : Word) : (s.call a).Inv := Inv_push16 h _
theorem Inv_ret (h : s.Inv) : s.ret.Inv := h
theorem Inv_callIf (h : s.Inv) (cc : Cond) (a : Word) : (s.callIf cc a).Inv := by
  rcases callIf_cases s cc a with ⟨-, e⟩ | ⟨-, e⟩ <;> rw [e]
  · exact Inv_call h a
  · exact h
theorem Inv_retIf (h : s.Inv) (cc : Cond) : (s.retIf cc).Inv := by
  rcases retIf_cases s cc with ⟨-, e⟩ | ⟨-, e⟩ <;> rw [e] <;> exact h
theorem Inv_jumpIf (h : s.Inv) (cc : Cond) (a : Word) : (s.jumpIf cc a).Inv := by
  rcases jumpIf_cases s cc a with ⟨-, e⟩ | ⟨-, e⟩ <;> rw [e] <;> exact h
theorem Inv_jumpRel (h : s.Inv) (e : Byte) : (s.jumpRel e).Inv := h
theorem Inv_jumpRelIf (h : s.Inv) (cc : Cond) (e : Byte) : (s.jumpRelIf cc e).Inv := by
  rcases jumpRelIf_cases s cc e with ⟨-, e⟩ | ⟨-, e⟩ <;> rw [e] <;> exact h
theorem Inv_haltIfEnabled (h : s.Inv) : s.haltIfEnabled.Inv := by
  rcases haltIfEnabled_cases s with ⟨-, e⟩ | ⟨-, e⟩ <;> rw [e] <;> exact h

/-- Operations that write `A`, an operand, `hl`, `sp` and flags only. -/
theorem Inv_setA_setFlags (h : s.Inv) (v : Byte) (g : Flags) : ((s.setA v).setFlags g).Inv :=
  Inv_setFlags (Inv_r8set h .a v) g
theorem Inv_r8set_setFlags (h : s.Inv) (r : R8) (v : Byte) (g : Flags) : ((s.r8set r v).setFlags g).Inv :=
  Inv_setFlags (Inv_r8set h r v) g
theorem Inv_setHl_setFlags (h : s.Inv) (v : Word) (g : Flags) : ((s.setHl v).setFlags g).Inv :=
  Inv_setFlags (s := s.setHl v) h g
theorem Inv_addSp (h : s.Inv) (e : Byte) : (s.addSp e).Inv := Inv_setFlags (s := s.setSp (s.sp + sext16 e)) h _

theorem Inv_aluAdd (h : s.Inv) (x : Byte) : (s.aluAdd x).Inv := Inv_setA_setFlags h _ _
theorem Inv_aluAdc (h : s.Inv) (x : Byte) : (s.aluAdc x).Inv := Inv_setA_setFlags h _ _
theorem Inv_aluSub (h : s.Inv) (x : Byte) : (s.aluSub x).Inv := Inv_setA_setFlags h _ _
theorem Inv_aluSbc (h : s.Inv) (x : Byte) : (s.aluSbc x).Inv := Inv_setA_setFlags h _ _
theorem Inv_aluAnd (h : s.Inv) (x : Byte) : (s.aluAnd x).Inv := Inv_setA_setFlags h _ _
theorem Inv_aluXor (h : s.Inv) (x : Byte) : (s.aluXor x).Inv := Inv_setA_setFlags h _ _
theorem Inv_aluOr (h : s.Inv) (x : Byte) : (s.aluOr x).Inv := Inv_setA_setFlags h _ _
theorem Inv_aluCp (h : s.Inv) (x : Byte) : (s.aluCp x).Inv := Inv_setFlags h _
theorem Inv_rotateA (h : s.Inv) (op : Byte → Byte × Bool) : (s.rotateA op).Inv := Inv_setA_setFlags h _ _
theorem Inv_decimalAdjust (h : s.Inv) : s.decimalAdjust.Inv := Inv_setA_setFlags h _ _
theorem Inv_complementA (h : s.Inv) : s.complementA.Inv := Inv_setA_setFlags h _ _
theorem Inv_setCarryFlag (h : s.Inv) : s.setCarryFlag.Inv := Inv_setFlags h _
theorem Inv_complementCarryFlag (h : s.Inv) : s.complementCarryFlag.Inv := Inv_setFlags h _
theorem Inv_incR8 (h : s.Inv) (r : R8) : (s.incR8 r).Inv := Inv_r8set_setFlags h _ _ _
theorem Inv_decR8 (h : s.Inv) (r : R8) : (s.decR8 r).Inv := Inv_r8set_setFlags h _ _ _
theorem Inv_addHl (h : s.Inv) (v : Word) : (s.addHl v).Inv := Inv_setHl_setFlags h _ _
theorem Inv_loadHlSpPlus (h : s.Inv) (e : Byte) : (s.loadHlSpPlus e).Inv := Inv_setHl_setFlags h _ _
theorem Inv_rotateR8 (h : s.Inv) (op : Byte → Byte × Bool) (r : R8) : (s.rotateR8 op r).Inv :=
  Inv_r8set_setFlags h _ _ _
theorem Inv_testBit (h : s.Inv) (b : Fin 8) (r : R8) : (s.testBit b r).Inv := Inv_setFlags h _
theorem Inv_clearBit (h : s.Inv) (b : Fin 8) (r : R8) : (s.clearBit b r).Inv := Inv_r8set h _ _
theorem Inv_assertBit (h : s.Inv) (b : Fin 8) (r : R8) : (s.assertBit b r).Inv := Inv_r8set h _ _
theorem Inv_copyR8 (h : s.Inv) (dst src : R8) : (s.copyR8 dst src).Inv := Inv_r8set h _ _
theorem Inv_loadA (h : s.Inv) (a : Word) : (s.loadA a).Inv := Inv_r8set h .a _
theorem Inv_storeA (h : s.Inv) (a : Word) : (s.storeA a).Inv := Inv_memWrite h _ _

end Sys2Proof
end

