-- ==== Sys2Proof/Laws/PerInstr.lean ====
section
/-! SUPPORT. Laws made per instruction: each constructor's encoding is one to three bytes long (30_encoding.md R80). -/

namespace Sys2Proof.Laws.EncodedSize

/-- R80: "An instruction is 1, 2 or 3 bytes long." -/
def Statement (i : Instr) : Prop :=
  (encode i).length = 1 ∨ (encode i).length = 2 ∨ (encode i).length = 3

theorem nop : Statement (.nop) := .inl rfl
theorem ldBcD16 (d : Word) : Statement (.ldBcD16 d) := .inr (.inr rfl)
theorem ldIndBcA : Statement (.ldIndBcA) := .inl rfl
theorem incBc : Statement (.incBc) := .inl rfl
theorem incB : Statement (.incB) := .inl rfl
theorem decB : Statement (.decB) := .inl rfl
theorem ldBD8 (n : Byte) : Statement (.ldBD8 n) := .inr (.inl rfl)
theorem rlca : Statement (.rlca) := .inl rfl
theorem ldIndA16Sp (a : Word) : Statement (.ldIndA16Sp a) := .inr (.inr rfl)
theorem addHlBc : Statement (.addHlBc) := .inl rfl
theorem ldAIndBc : Statement (.ldAIndBc) := .inl rfl
theorem decBc : Statement (.decBc) := .inl rfl
theorem incC : Statement (.incC) := .inl rfl
theorem decC : Statement (.decC) := .inl rfl
theorem ldCD8 (n : Byte) : Statement (.ldCD8 n) := .inr (.inl rfl)
theorem rrca : Statement (.rrca) := .inl rfl
theorem stop : Statement (.stop) := .inl rfl
theorem ldDeD16 (d : Word) : Statement (.ldDeD16 d) := .inr (.inr rfl)
theorem ldIndDeA : Statement (.ldIndDeA) := .inl rfl
theorem incDe : Statement (.incDe) := .inl rfl
theorem incD : Statement (.incD) := .inl rfl
theorem decD : Statement (.decD) := .inl rfl
theorem ldDD8 (n : Byte) : Statement (.ldDD8 n) := .inr (.inl rfl)
theorem rla : Statement (.rla) := .inl rfl
theorem jrE8 (e : Byte) : Statement (.jrE8 e) := .inr (.inl rfl)
theorem addHlDe : Statement (.addHlDe) := .inl rfl
theorem ldAIndDe : Statement (.ldAIndDe) := .inl rfl
theorem decDe : Statement (.decDe) := .inl rfl
theorem incE : Statement (.incE) := .inl rfl
theorem decE : Statement (.decE) := .inl rfl
theorem ldED8 (n : Byte) : Statement (.ldED8 n) := .inr (.inl rfl)
theorem rra : Statement (.rra) := .inl rfl
theorem jrNzE8 (e : Byte) : Statement (.jrNzE8 e) := .inr (.inl rfl)
theorem ldHlD16 (d : Word) : Statement (.ldHlD16 d) := .inr (.inr rfl)
theorem ldIndHlIncA : Statement (.ldIndHlIncA) := .inl rfl
theorem incHl : Statement (.incHl) := .inl rfl
theorem incH : Statement (.incH) := .inl rfl
theorem decH : Statement (.decH) := .inl rfl
theorem ldHD8 (n : Byte) : Statement (.ldHD8 n) := .inr (.inl rfl)
theorem daa : Statement (.daa) := .inl rfl
theorem jrZE8 (e : Byte) : Statement (.jrZE8 e) := .inr (.inl rfl)
theorem addHlHl : Statement (.addHlHl) := .inl rfl
theorem ldAIndHlInc : Statement (.ldAIndHlInc) := .inl rfl
theorem decHl : Statement (.decHl) := .inl rfl
theorem incL : Statement (.incL) := .inl rfl
theorem decL : Statement (.decL) := .inl rfl
theorem ldLD8 (n : Byte) : Statement (.ldLD8 n) := .inr (.inl rfl)
theorem cpl : Statement (.cpl) := .inl rfl
theorem jrNcE8 (e : Byte) : Statement (.jrNcE8 e) := .inr (.inl rfl)
theorem ldSpD16 (d : Word) : Statement (.ldSpD16 d) := .inr (.inr rfl)
theorem ldIndHlDecA : Statement (.ldIndHlDecA) := .inl rfl
theorem incSp : Statement (.incSp) := .inl rfl
theorem incIndHl : Statement (.incIndHl) := .inl rfl
theorem decIndHl : Statement (.decIndHl) := .inl rfl
theorem ldIndHlD8 (n : Byte) : Statement (.ldIndHlD8 n) := .inr (.inl rfl)
theorem scf : Statement (.scf) := .inl rfl
theorem jrCE8 (e : Byte) : Statement (.jrCE8 e) := .inr (.inl rfl)
theorem addHlSp : Statement (.addHlSp) := .inl rfl
theorem ldAIndHlDec : Statement (.ldAIndHlDec) := .inl rfl
theorem decSp : Statement (.decSp) := .inl rfl
theorem incA : Statement (.incA) := .inl rfl
theorem decA : Statement (.decA) := .inl rfl
theorem ldAD8 (n : Byte) : Statement (.ldAD8 n) := .inr (.inl rfl)
theorem ccf : Statement (.ccf) := .inl rfl
theorem ldBB : Statement (.ldBB) := .inl rfl
theorem ldBC : Statement (.ldBC) := .inl rfl
theorem ldBD : Statement (.ldBD) := .inl rfl
theorem ldBE : Statement (.ldBE) := .inl rfl
theorem ldBH : Statement (.ldBH) := .inl rfl
theorem ldBL : Statement (.ldBL) := .inl rfl
theorem ldBIndHl : Statement (.ldBIndHl) := .inl rfl
theorem ldBA : Statement (.ldBA) := .inl rfl
theorem ldCB : Statement (.ldCB) := .inl rfl
theorem ldCC : Statement (.ldCC) := .inl rfl
theorem ldCD : Statement (.ldCD) := .inl rfl
theorem ldCE : Statement (.ldCE) := .inl rfl
theorem ldCH : Statement (.ldCH) := .inl rfl
theorem ldCL : Statement (.ldCL) := .inl rfl
theorem ldCIndHl : Statement (.ldCIndHl) := .inl rfl
theorem ldCA : Statement (.ldCA) := .inl rfl
theorem ldDB : Statement (.ldDB) := .inl rfl
theorem ldDC : Statement (.ldDC) := .inl rfl
theorem ldDD : Statement (.ldDD) := .inl rfl
theorem ldDE : Statement (.ldDE) := .inl rfl
theorem ldDH : Statement (.ldDH) := .inl rfl
theorem ldDL : Statement (.ldDL) := .inl rfl
theorem ldDIndHl : Statement (.ldDIndHl) := .inl rfl
theorem ldDA : Statement (.ldDA) := .inl rfl
theorem ldEB : Statement (.ldEB) := .inl rfl
theorem ldEC : Statement (.ldEC) := .inl rfl
theorem ldED : Statement (.ldED) := .inl rfl
theorem ldEE : Statement (.ldEE) := .inl rfl
theorem ldEH : Statement (.ldEH) := .inl rfl
theorem ldEL : Statement (.ldEL) := .inl rfl
theorem ldEIndHl : Statement (.ldEIndHl) := .inl rfl
theorem ldEA : Statement (.ldEA) := .inl rfl
theorem ldHB : Statement (.ldHB) := .inl rfl
theorem ldHC : Statement (.ldHC) := .inl rfl
theorem ldHD : Statement (.ldHD) := .inl rfl
theorem ldHE : Statement (.ldHE) := .inl rfl
theorem ldHH : Statement (.ldHH) := .inl rfl
theorem ldHL : Statement (.ldHL) := .inl rfl
theorem ldHIndHl : Statement (.ldHIndHl) := .inl rfl
theorem ldHA : Statement (.ldHA) := .inl rfl
theorem ldLB : Statement (.ldLB) := .inl rfl
theorem ldLC : Statement (.ldLC) := .inl rfl
theorem ldLD : Statement (.ldLD) := .inl rfl
theorem ldLE : Statement (.ldLE) := .inl rfl
theorem ldLH : Statement (.ldLH) := .inl rfl
theorem ldLL : Statement (.ldLL) := .inl rfl
theorem ldLIndHl : Statement (.ldLIndHl) := .inl rfl
theorem ldLA : Statement (.ldLA) := .inl rfl
theorem ldIndHlB : Statement (.ldIndHlB) := .inl rfl
theorem ldIndHlC : Statement (.ldIndHlC) := .inl rfl
theorem ldIndHlD : Statement (.ldIndHlD) := .inl rfl
theorem ldIndHlE : Statement (.ldIndHlE) := .inl rfl
theorem ldIndHlH : Statement (.ldIndHlH) := .inl rfl
theorem ldIndHlL : Statement (.ldIndHlL) := .inl rfl
theorem halt : Statement (.halt) := .inl rfl
theorem ldIndHlA : Statement (.ldIndHlA) := .inl rfl
theorem ldAB : Statement (.ldAB) := .inl rfl
theorem ldAC : Statement (.ldAC) := .inl rfl
theorem ldAD : Statement (.ldAD) := .inl rfl
theorem ldAE : Statement (.ldAE) := .inl rfl
theorem ldAH : Statement (.ldAH) := .inl rfl
theorem ldAL : Statement (.ldAL) := .inl rfl
theorem ldAIndHl : Statement (.ldAIndHl) := .inl rfl
theorem ldAA : Statement (.ldAA) := .inl rfl
theorem addAB : Statement (.addAB) := .inl rfl
theorem addAC : Statement (.addAC) := .inl rfl
theorem addAD : Statement (.addAD) := .inl rfl
theorem addAE : Statement (.addAE) := .inl rfl
theorem addAH : Statement (.addAH) := .inl rfl
theorem addAL : Statement (.addAL) := .inl rfl
theorem addAIndHl : Statement (.addAIndHl) := .inl rfl
theorem addAA : Statement (.addAA) := .inl rfl
theorem adcAB : Statement (.adcAB) := .inl rfl
theorem adcAC : Statement (.adcAC) := .inl rfl
theorem adcAD : Statement (.adcAD) := .inl rfl
theorem adcAE : Statement (.adcAE) := .inl rfl
theorem adcAH : Statement (.adcAH) := .inl rfl
theorem adcAL : Statement (.adcAL) := .inl rfl
theorem adcAIndHl : Statement (.adcAIndHl) := .inl rfl
theorem adcAA : Statement (.adcAA) := .inl rfl
theorem subB : Statement (.subB) := .inl rfl
theorem subC : Statement (.subC) := .inl rfl
theorem subD : Statement (.subD) := .inl rfl
theorem subE : Statement (.subE) := .inl rfl
theorem subH : Statement (.subH) := .inl rfl
theorem subL : Statement (.subL) := .inl rfl
theorem subIndHl : Statement (.subIndHl) := .inl rfl
theorem subA : Statement (.subA) := .inl rfl
theorem sbcAB : Statement (.sbcAB) := .inl rfl
theorem sbcAC : Statement (.sbcAC) := .inl rfl
theorem sbcAD : Statement (.sbcAD) := .inl rfl
theorem sbcAE : Statement (.sbcAE) := .inl rfl
theorem sbcAH : Statement (.sbcAH) := .inl rfl
theorem sbcAL : Statement (.sbcAL) := .inl rfl
theorem sbcAIndHl : Statement (.sbcAIndHl) := .inl rfl
theorem sbcAA : Statement (.sbcAA) := .inl rfl
theorem andB : Statement (.andB) := .inl rfl
theorem andC : Statement (.andC) := .inl rfl
theorem andD : Statement (.andD) := .inl rfl
theorem andE : Statement (.andE) := .inl rfl
theorem andH : Statement (.andH) := .inl rfl
theorem andL : Statement (.andL) := .inl rfl
theorem andIndHl : Statement (.andIndHl) := .inl rfl
theorem andA : Statement (.andA) := .inl rfl
theorem xorB : Statement (.xorB) := .inl rfl
theorem xorC : Statement (.xorC) := .inl rfl
theorem xorD : Statement (.xorD) := .inl rfl
theorem xorE : Statement (.xorE) := .inl rfl
theorem xorH : Statement (.xorH) := .inl rfl
theorem xorL : Statement (.xorL) := .inl rfl
theorem xorIndHl : Statement (.xorIndHl) := .inl rfl
theorem xorA : Statement (.xorA) := .inl rfl
theorem orB : Statement (.orB) := .inl rfl
theorem orC : Statement (.orC) := .inl rfl
theorem orD : Statement (.orD) := .inl rfl
theorem orE : Statement (.orE) := .inl rfl
theorem orH : Statement (.orH) := .inl rfl
theorem orL : Statement (.orL) := .inl rfl
theorem orIndHl : Statement (.orIndHl) := .inl rfl
theorem orA : Statement (.orA) := .inl rfl
theorem cpB : Statement (.cpB) := .inl rfl
theorem cpC : Statement (.cpC) := .inl rfl
theorem cpD : Statement (.cpD) := .inl rfl
theorem cpE : Statement (.cpE) := .inl rfl
theorem cpH : Statement (.cpH) := .inl rfl
theorem cpL : Statement (.cpL) := .inl rfl
theorem cpIndHl : Statement (.cpIndHl) := .inl rfl
theorem cpA : Statement (.cpA) := .inl rfl
theorem retNz : Statement (.retNz) := .inl rfl
theorem popBc : Statement (.popBc) := .inl rfl
theorem jpNzA16 (a : Word) : Statement (.jpNzA16 a) := .inr (.inr rfl)
theorem jpA16 (a : Word) : Statement (.jpA16 a) := .inr (.inr rfl)
theorem callNzA16 (a : Word) : Statement (.callNzA16 a) := .inr (.inr rfl)
theorem pushBc : Statement (.pushBc) := .inl rfl
theorem addAD8 (n : Byte) : Statement (.addAD8 n) := .inr (.inl rfl)
theorem rst00 : Statement (.rst00) := .inl rfl
theorem retZ : Statement (.retZ) := .inl rfl
theorem ret : Statement (.ret) := .inl rfl
theorem jpZA16 (a : Word) : Statement (.jpZA16 a) := .inr (.inr rfl)
theorem prefixCb (op2 : Byte) : Statement (.prefixCb op2) := .inr (.inl rfl)
theorem callZA16 (a : Word) : Statement (.callZA16 a) := .inr (.inr rfl)
theorem callA16 (a : Word) : Statement (.callA16 a) := .inr (.inr rfl)
theorem adcAD8 (n : Byte) : Statement (.adcAD8 n) := .inr (.inl rfl)
theorem rst08 : Statement (.rst08) := .inl rfl
theorem retNc : Statement (.retNc) := .inl rfl
theorem popDe : Statement (.popDe) := .inl rfl
theorem jpNcA16 (a : Word) : Statement (.jpNcA16 a) := .inr (.inr rfl)
theorem invalidD3 : Statement (.invalidD3) := .inl rfl
theorem callNcA16 (a : Word) : Statement (.callNcA16 a) := .inr (.inr rfl)
theorem pushDe : Statement (.pushDe) := .inl rfl
theorem subD8 (n : Byte) : Statement (.subD8 n) := .inr (.inl rfl)
theorem rst10 : Statement (.rst10) := .inl rfl
theorem retC : Statement (.retC) := .inl rfl
theorem reti : Statement (.reti) := .inl rfl
theorem jpCA16 (a : Word) : Statement (.jpCA16 a) := .inr (.inr rfl)
theorem invalidDB : Statement (.invalidDB) := .inl rfl
theorem callCA16 (a : Word) : Statement (.callCA16 a) := .inr (.inr rfl)
theorem invalidDD : Statement (.invalidDD) := .inl rfl
theorem sbcAD8 (n : Byte) : Statement (.sbcAD8 n) := .inr (.inl rfl)
theorem rst18 : Statement (.rst18) := .inl rfl
theorem ldhIndA8A (n : Byte) : Statement (.ldhIndA8A n) := .inr (.inl rfl)
theorem popHl : Statement (.popHl) := .inl rfl
theorem ldIndCA : Statement (.ldIndCA) := .inl rfl
theorem invalidE3 : Statement (.invalidE3) := .inl rfl
theorem invalidE4 : Statement (.invalidE4) := .inl rfl
theorem pushHl : Statement (.pushHl) := .inl rfl
theorem andD8 (n : Byte) : Statement (.andD8 n) := .inr (.inl rfl)
theorem rst20 : Statement (.rst20) := .inl rfl
theorem addSpE8 (e : Byte) : Statement (.addSpE8 e) := .inr (.inl rfl)
theorem jpHl : Statement (.jpHl) := .inl rfl
theorem ldIndA16A (a : Word) : Statement (.ldIndA16A a) := .inr (.inr rfl)
theorem invalidEB : Statement (.invalidEB) := .inl rfl
theorem invalidEC : Statement (.invalidEC) := .inl rfl
theorem invalidED : Statement (.invalidED) := .inl rfl
theorem xorD8 (n : Byte) : Statement (.xorD8 n) := .inr (.inl rfl)
theorem rst28 : Statement (.rst28) := .inl rfl
theorem ldhAIndA8 (n : Byte) : Statement (.ldhAIndA8 n) := .inr (.inl rfl)
theorem popAf : Statement (.popAf) := .inl rfl
theorem ldAIndC : Statement (.ldAIndC) := .inl rfl
theorem di : Statement (.di) := .inl rfl
theorem invalidF4 : Statement (.invalidF4) := .inl rfl
theorem pushAf : Statement (.pushAf) := .inl rfl
theorem orD8 (n : Byte) : Statement (.orD8 n) := .inr (.inl rfl)
theorem rst30 : Statement (.rst30) := .inl rfl
theorem ldHlSpE8 (e : Byte) : Statement (.ldHlSpE8 e) := .inr (.inl rfl)
theorem ldSpHl : Statement (.ldSpHl) := .inl rfl
theorem ldAIndA16 (a : Word) : Statement (.ldAIndA16 a) := .inr (.inr rfl)
theorem ei : Statement (.ei) := .inl rfl
theorem invalidFC : Statement (.invalidFC) := .inl rfl
theorem invalidFD : Statement (.invalidFD) := .inl rfl
theorem cpD8 (n : Byte) : Statement (.cpD8 n) := .inr (.inl rfl)
theorem rst38 : Statement (.rst38) := .inl rfl
theorem rlcR8 (r : R8) : Statement (.rlcR8 r) := .inr (.inl rfl)
theorem rrcR8 (r : R8) : Statement (.rrcR8 r) := .inr (.inl rfl)
theorem rlR8 (r : R8) : Statement (.rlR8 r) := .inr (.inl rfl)
theorem rrR8 (r : R8) : Statement (.rrR8 r) := .inr (.inl rfl)
theorem slaR8 (r : R8) : Statement (.slaR8 r) := .inr (.inl rfl)
theorem sraR8 (r : R8) : Statement (.sraR8 r) := .inr (.inl rfl)
theorem swapR8 (r : R8) : Statement (.swapR8 r) := .inr (.inl rfl)
theorem srlR8 (r : R8) : Statement (.srlR8 r) := .inr (.inl rfl)
theorem bitBR8 (b : Fin 8) (r : R8) : Statement (.bitBR8 b r) := .inr (.inl rfl)
theorem resBR8 (b : Fin 8) (r : R8) : Statement (.resBR8 b r) := .inr (.inl rfl)
theorem setBR8 (b : Fin 8) (r : R8) : Statement (.setBR8 b r) := .inr (.inl rfl)

end Sys2Proof.Laws.EncodedSize
end

