-- ==== Sys2Proof/Laws/Step.lean ====
section
/-! SUPPORT. Laws of the step: what the host sees of each outcome, and a step of a running core. -/

namespace Sys2Proof.Machine

@[simp] theorem StepOutcome.toHost_next (s t : State) : (StepOutcome.next t).toHost s = .next t := rfl
@[simp] theorem StepOutcome.toHost_fault (s : State) (f : Fault) : (StepOutcome.fault f).toHost s = .fault f := rfl
@[simp] theorem StepOutcome.toHost_hold (s : State) : StepOutcome.hold.toHost s = .next s := rfl
@[simp] theorem StepOutcome.toHost_refused (s : State) (r : Refusal) :
    (StepOutcome.refused r).toHost s = .refused r := rfl

@[simp] theorem StepOutcome.ofExec_next (t : State) : StepOutcome.ofExec (.next t) = .next t := rfl
@[simp] theorem StepOutcome.ofExec_fault (f : Fault) : StepOutcome.ofExec (.fault f) = .fault f := rfl
@[simp] theorem StepOutcome.ofExec_refused (r : Refusal) : StepOutcome.ofExec (.refused r) = .refused r := rfl

/-- An instruction never holds: `Hold` is the outcome of a core that is not running, and of nothing else. -/
theorem StepOutcome.ofExec_ne_hold (r : StepResult) : StepOutcome.ofExec r ≠ .hold := by cases r <;> simp

/-- The host sees an instruction's outcome as `exec` gave it. -/
@[simp] theorem StepOutcome.toHost_ofExec (s : State) (r : StepResult) : (StepOutcome.ofExec r).toHost s = r := by
  cases r <;> rfl

/-- A running core's step is the instruction at `pc`, in the spec's outcomes and in the host's. -/
theorem cycle_of_running {s : State} (h : s.run = .running) : cycle s = .ofExec (runInstr s) := by simp [cycle, h]
theorem step_of_running {s : State} (h : s.run = .running) : step s = runInstr s := by
  simp [step, cycle_of_running h]

end Sys2Proof.Machine
end

