-- ==== Sys2Proof/Machine/Regions.lean ====
section
/-! DEFINITION. The region table (20_memory.md R52): "metadata only". No operation of the machine consults it; every
region behaves alike (R51). The bounds are the spec's labels from general knowledge (D25, log 18). -/

namespace Sys2Proof.Machine

/-- The region names of R52, in order; `unnamed` is the range the source does not name. -/
inductive Region where
  | romBank0
  | switchableRomBank
  | videoMemory
  | externalRam
  | workRam
  | echoOfWorkRam
  | objectAttributeTable
  | unnamed
  | ioPorts
  | highRam
  | interruptEnableRegister
  deriving DecidableEq, Repr

/-- The region an address is labelled with (R52). -/
def regionOf (a : Word) : Region :=
  if a ≤ 0x3FFF then .romBank0
  else if a ≤ 0x7FFF then .switchableRomBank
  else if a ≤ 0x9FFF then .videoMemory
  else if a ≤ 0xBFFF then .externalRam
  else if a ≤ 0xDFFF then .workRam
  else if a ≤ 0xFDFF then .echoOfWorkRam
  else if a ≤ 0xFE9F then .objectAttributeTable
  else if a ≤ 0xFEFF then .unnamed
  else if a ≤ 0xFF7F then .ioPorts
  else if a ≤ 0xFFFE then .highRam
  else .interruptEnableRegister

end Sys2Proof.Machine
end

