-- ==== Sys2Proof/Tests/Slice0.lean ====
section
/-! SUPPORT. The model's own tests. Expected results come from spec/: words from the encoding lines of the rules and the
map of 30_encoding.md, vectors from 95_test_vectors.md (their ids stand in the docstrings). The last part holds one witness
for every statement with hypotheses. -/

set_option Elab.async false

namespace Sys2Proof.Tests

open Sys2Proof Sys2Proof.Machine

/-! ## Well-formed instructions -/

/-- The bare prefix, whatever follows, is the one term that is not well-formed (log 7); the instruction it begins is. -/
theorem test_wf_refuses_prefix : (Instr.prefixCb 0x37).wf = false ∧ (Instr.prefixCb 0x00).wf = false ∧
    (Instr.swapR8 .a).wf = true ∧ (Instr.rlcR8 .b).wf = true := by decide

/-! ## Decoding: every constructor's word, written out in bits -/

/-- Each list of bytes decodes to the instruction beside it, with nothing left over. -/
def decodesTo (words : List (List Byte × Instr)) : Bool :=
  words.all (fun p => decide (decode p.1 = .ok p.2 []))

/-- Opcodes 0x00 to 0x0F. -/
theorem test_decode_row_0 : decodesTo [
    ([0b00000000], .nop), ([0b00000001, 0x34, 0xC2], .ldBcD16 0xC234), ([0b00000010], .ldIndBcA),
    ([0b00000011], .incBc), ([0b00000100], .incB), ([0b00000101], .decB), ([0b00000110, 0x9C], .ldBD8 0x9C),
    ([0b00000111], .rlca), ([0b00001000, 0x34, 0xC2], .ldIndA16Sp 0xC234), ([0b00001001], .addHlBc),
    ([0b00001010], .ldAIndBc), ([0b00001011], .decBc), ([0b00001100], .incC), ([0b00001101], .decC),
    ([0b00001110, 0x9C], .ldCD8 0x9C), ([0b00001111], .rrca)] = true := by decide

/-- Opcodes 0x10 to 0x1F. -/
theorem test_decode_row_1 : decodesTo [
    ([0b00010000], .stop), ([0b00010001, 0x34, 0xC2], .ldDeD16 0xC234), ([0b00010010], .ldIndDeA),
    ([0b00010011], .incDe), ([0b00010100], .incD), ([0b00010101], .decD), ([0b00010110, 0x9C], .ldDD8 0x9C),
    ([0b00010111], .rla), ([0b00011000, 0x9C], .jrE8 0x9C), ([0b00011001], .addHlDe), ([0b00011010], .ldAIndDe),
    ([0b00011011], .decDe), ([0b00011100], .incE), ([0b00011101], .decE), ([0b00011110, 0x9C], .ldED8 0x9C),
    ([0b00011111], .rra)] = true := by decide

/-- Opcodes 0x20 to 0x2F. -/
theorem test_decode_row_2 : decodesTo [
    ([0b00100000, 0x9C], .jrNzE8 0x9C), ([0b00100001, 0x34, 0xC2], .ldHlD16 0xC234), ([0b00100010], .ldIndHlIncA),
    ([0b00100011], .incHl), ([0b00100100], .incH), ([0b00100101], .decH), ([0b00100110, 0x9C], .ldHD8 0x9C),
    ([0b00100111], .daa), ([0b00101000, 0x9C], .jrZE8 0x9C), ([0b00101001], .addHlHl), ([0b00101010], .ldAIndHlInc),
    ([0b00101011], .decHl), ([0b00101100], .incL), ([0b00101101], .decL), ([0b00101110, 0x9C], .ldLD8 0x9C),
    ([0b00101111], .cpl)] = true := by decide

/-- Opcodes 0x30 to 0x3F. -/
theorem test_decode_row_3 : decodesTo [
    ([0b00110000, 0x9C], .jrNcE8 0x9C), ([0b00110001, 0x34, 0xC2], .ldSpD16 0xC234), ([0b00110010], .ldIndHlDecA),
    ([0b00110011], .incSp), ([0b00110100], .incIndHl), ([0b00110101], .decIndHl),
    ([0b00110110, 0x9C], .ldIndHlD8 0x9C), ([0b00110111], .scf), ([0b00111000, 0x9C], .jrCE8 0x9C),
    ([0b00111001], .addHlSp), ([0b00111010], .ldAIndHlDec), ([0b00111011], .decSp), ([0b00111100], .incA),
    ([0b00111101], .decA), ([0b00111110, 0x9C], .ldAD8 0x9C), ([0b00111111], .ccf)] = true := by decide

/-- Opcodes 0x40 to 0x4F. -/
theorem test_decode_row_4 : decodesTo [
    ([0b01000000], .ldBB), ([0b01000001], .ldBC), ([0b01000010], .ldBD), ([0b01000011], .ldBE),
    ([0b01000100], .ldBH), ([0b01000101], .ldBL), ([0b01000110], .ldBIndHl), ([0b01000111], .ldBA),
    ([0b01001000], .ldCB), ([0b01001001], .ldCC), ([0b01001010], .ldCD), ([0b01001011], .ldCE),
    ([0b01001100], .ldCH), ([0b01001101], .ldCL), ([0b01001110], .ldCIndHl), ([0b01001111], .ldCA)] = true := by decide

/-- Opcodes 0x50 to 0x5F. -/
theorem test_decode_row_5 : decodesTo [
    ([0b01010000], .ldDB), ([0b01010001], .ldDC), ([0b01010010], .ldDD), ([0b01010011], .ldDE),
    ([0b01010100], .ldDH), ([0b01010101], .ldDL), ([0b01010110], .ldDIndHl), ([0b01010111], .ldDA),
    ([0b01011000], .ldEB), ([0b01011001], .ldEC), ([0b01011010], .ldED), ([0b01011011], .ldEE),
    ([0b01011100], .ldEH), ([0b01011101], .ldEL), ([0b01011110], .ldEIndHl), ([0b01011111], .ldEA)] = true := by decide

/-- Opcodes 0x60 to 0x6F. -/
theorem test_decode_row_6 : decodesTo [
    ([0b01100000], .ldHB), ([0b01100001], .ldHC), ([0b01100010], .ldHD), ([0b01100011], .ldHE),
    ([0b01100100], .ldHH), ([0b01100101], .ldHL), ([0b01100110], .ldHIndHl), ([0b01100111], .ldHA),
    ([0b01101000], .ldLB), ([0b01101001], .ldLC), ([0b01101010], .ldLD), ([0b01101011], .ldLE),
    ([0b01101100], .ldLH), ([0b01101101], .ldLL), ([0b01101110], .ldLIndHl), ([0b01101111], .ldLA)] = true := by decide

/-- Opcodes 0x70 to 0x7F. -/
theorem test_decode_row_7 : decodesTo [
    ([0b01110000], .ldIndHlB), ([0b01110001], .ldIndHlC), ([0b01110010], .ldIndHlD), ([0b01110011], .ldIndHlE),
    ([0b01110100], .ldIndHlH), ([0b01110101], .ldIndHlL), ([0b01110110], .halt), ([0b01110111], .ldIndHlA),
    ([0b01111000], .ldAB), ([0b01111001], .ldAC), ([0b01111010], .ldAD), ([0b01111011], .ldAE),
    ([0b01111100], .ldAH), ([0b01111101], .ldAL), ([0b01111110], .ldAIndHl), ([0b01111111], .ldAA)] = true := by decide

/-- Opcodes 0x80 to 0x8F. -/
theorem test_decode_row_8 : decodesTo [
    ([0b10000000], .addAB), ([0b10000001], .addAC), ([0b10000010], .addAD), ([0b10000011], .addAE),
    ([0b10000100], .addAH), ([0b10000101], .addAL), ([0b10000110], .addAIndHl), ([0b10000111], .addAA),
    ([0b10001000], .adcAB), ([0b10001001], .adcAC), ([0b10001010], .adcAD), ([0b10001011], .adcAE),
    ([0b10001100], .adcAH), ([0b10001101], .adcAL), ([0b10001110], .adcAIndHl), ([0b10001111], .adcAA)] = true := by decide

/-- Opcodes 0x90 to 0x9F. -/
theorem test_decode_row_9 : decodesTo [
    ([0b10010000], .subB), ([0b10010001], .subC), ([0b10010010], .subD), ([0b10010011], .subE),
    ([0b10010100], .subH), ([0b10010101], .subL), ([0b10010110], .subIndHl), ([0b10010111], .subA),
    ([0b10011000], .sbcAB), ([0b10011001], .sbcAC), ([0b10011010], .sbcAD), ([0b10011011], .sbcAE),
    ([0b10011100], .sbcAH), ([0b10011101], .sbcAL), ([0b10011110], .sbcAIndHl), ([0b10011111], .sbcAA)] = true := by decide

/-- Opcodes 0xA0 to 0xAF. -/
theorem test_decode_row_A : decodesTo [
    ([0b10100000], .andB), ([0b10100001], .andC), ([0b10100010], .andD), ([0b10100011], .andE),
    ([0b10100100], .andH), ([0b10100101], .andL), ([0b10100110], .andIndHl), ([0b10100111], .andA),
    ([0b10101000], .xorB), ([0b10101001], .xorC), ([0b10101010], .xorD), ([0b10101011], .xorE),
    ([0b10101100], .xorH), ([0b10101101], .xorL), ([0b10101110], .xorIndHl), ([0b10101111], .xorA)] = true := by decide

/-- Opcodes 0xB0 to 0xBF. -/
theorem test_decode_row_B : decodesTo [
    ([0b10110000], .orB), ([0b10110001], .orC), ([0b10110010], .orD), ([0b10110011], .orE), ([0b10110100], .orH),
    ([0b10110101], .orL), ([0b10110110], .orIndHl), ([0b10110111], .orA), ([0b10111000], .cpB), ([0b10111001], .cpC),
    ([0b10111010], .cpD), ([0b10111011], .cpE), ([0b10111100], .cpH), ([0b10111101], .cpL), ([0b10111110], .cpIndHl),
    ([0b10111111], .cpA)] = true := by decide

/-- Opcodes 0xC0 to 0xCF. -/
theorem test_decode_row_C : decodesTo [
    ([0b11000000], .retNz), ([0b11000001], .popBc), ([0b11000010, 0x34, 0xC2], .jpNzA16 0xC234),
    ([0b11000011, 0x34, 0xC2], .jpA16 0xC234), ([0b11000100, 0x34, 0xC2], .callNzA16 0xC234),
    ([0b11000101], .pushBc), ([0b11000110, 0x9C], .addAD8 0x9C), ([0b11000111], .rst00), ([0b11001000], .retZ),
    ([0b11001001], .ret), ([0b11001010, 0x34, 0xC2], .jpZA16 0xC234), ([0b11001100, 0x34, 0xC2], .callZA16 0xC234),
    ([0b11001101, 0x34, 0xC2], .callA16 0xC234), ([0b11001110, 0x9C], .adcAD8 0x9C), ([0b11001111], .rst08)] = true := by decide

/-- Opcodes 0xD0 to 0xDF. -/
theorem test_decode_row_D : decodesTo [
    ([0b11010000], .retNc), ([0b11010001], .popDe), ([0b11010010, 0x34, 0xC2], .jpNcA16 0xC234),
    ([0b11010011], .invalidD3), ([0b11010100, 0x34, 0xC2], .callNcA16 0xC234), ([0b11010101], .pushDe),
    ([0b11010110, 0x9C], .subD8 0x9C), ([0b11010111], .rst10), ([0b11011000], .retC), ([0b11011001], .reti),
    ([0b11011010, 0x34, 0xC2], .jpCA16 0xC234), ([0b11011011], .invalidDB),
    ([0b11011100, 0x34, 0xC2], .callCA16 0xC234), ([0b11011101], .invalidDD), ([0b11011110, 0x9C], .sbcAD8 0x9C),
    ([0b11011111], .rst18)] = true := by decide

/-- Opcodes 0xE0 to 0xEF. -/
theorem test_decode_row_E : decodesTo [
    ([0b11100000, 0x9C], .ldhIndA8A 0x9C), ([0b11100001], .popHl), ([0b11100010], .ldIndCA),
    ([0b11100011], .invalidE3), ([0b11100100], .invalidE4), ([0b11100101], .pushHl),
    ([0b11100110, 0x9C], .andD8 0x9C), ([0b11100111], .rst20), ([0b11101000, 0x9C], .addSpE8 0x9C),
    ([0b11101001], .jpHl), ([0b11101010, 0x34, 0xC2], .ldIndA16A 0xC234), ([0b11101011], .invalidEB),
    ([0b11101100], .invalidEC), ([0b11101101], .invalidED), ([0b11101110, 0x9C], .xorD8 0x9C), ([0b11101111], .rst28)] = true := by decide

/-- Opcodes 0xF0 to 0xFF. -/
theorem test_decode_row_F : decodesTo [
    ([0b11110000, 0x9C], .ldhAIndA8 0x9C), ([0b11110001], .popAf), ([0b11110010], .ldAIndC), ([0b11110011], .di),
    ([0b11110100], .invalidF4), ([0b11110101], .pushAf), ([0b11110110, 0x9C], .orD8 0x9C), ([0b11110111], .rst30),
    ([0b11111000, 0x9C], .ldHlSpE8 0x9C), ([0b11111001], .ldSpHl), ([0b11111010, 0x34, 0xC2], .ldAIndA16 0xC234),
    ([0b11111011], .ei), ([0b11111100], .invalidFC), ([0b11111101], .invalidFD), ([0b11111110, 0x9C], .cpD8 0x9C),
    ([0b11111111], .rst38)] = true := by decide

/-- The extension table, each operation on three operands. -/
theorem test_decode_extension : decodesTo [
    ([0xCB, 0b00000001], .rlcR8 .c), ([0xCB, 0b00000110], .rlcR8 .indHl), ([0xCB, 0b00000111], .rlcR8 .a),
    ([0xCB, 0b00001001], .rrcR8 .c), ([0xCB, 0b00001110], .rrcR8 .indHl), ([0xCB, 0b00001111], .rrcR8 .a),
    ([0xCB, 0b00010001], .rlR8 .c), ([0xCB, 0b00010110], .rlR8 .indHl), ([0xCB, 0b00010111], .rlR8 .a),
    ([0xCB, 0b00011001], .rrR8 .c), ([0xCB, 0b00011110], .rrR8 .indHl), ([0xCB, 0b00011111], .rrR8 .a),
    ([0xCB, 0b00100001], .slaR8 .c), ([0xCB, 0b00100110], .slaR8 .indHl), ([0xCB, 0b00100111], .slaR8 .a),
    ([0xCB, 0b00101001], .sraR8 .c), ([0xCB, 0b00101110], .sraR8 .indHl), ([0xCB, 0b00101111], .sraR8 .a),
    ([0xCB, 0b00110001], .swapR8 .c), ([0xCB, 0b00110110], .swapR8 .indHl), ([0xCB, 0b00110111], .swapR8 .a),
    ([0xCB, 0b00111001], .srlR8 .c), ([0xCB, 0b00111110], .srlR8 .indHl), ([0xCB, 0b00111111], .srlR8 .a),
    ([0xCB, 0b01000000], .bitBR8 0 .b), ([0xCB, 0b01101011], .bitBR8 5 .e), ([0xCB, 0b01111110], .bitBR8 7 .indHl),
    ([0xCB, 0b10000000], .resBR8 0 .b), ([0xCB, 0b10101011], .resBR8 5 .e), ([0xCB, 0b10111110], .resBR8 7 .indHl),
    ([0xCB, 0b11000000], .setBR8 0 .b), ([0xCB, 0b11101011], .setBR8 5 .e), ([0xCB, 0b11111110], .setBR8 7 .indHl)] = true := by decide

/-- Too few bytes are rejected by name (30_encoding.md R85). -/
theorem test_decode_rejects : decode [] = .rejected .noByte ∧ decode [0xCB] = .rejected (.tooShort 0xCB) ∧
    decode [0x3E] = .rejected (.tooShort 0x3E) ∧ decode [0xCD, 0x00] = .rejected (.tooShort 0xCD) := by decide

/-- The host's reading of words: the first byte is the least significant. -/
theorem test_decode_table_words : decodeTableWord 8 0x76 = some .halt ∧
    decodeTableWord 24 0xC234EA = some (.ldIndA16A 0xC234) ∧ decodeTableWord 8 0x3E = some (.ldAD8 0) ∧
    decodeTableWord 16 0x7CCB = some (.bitBR8 7 .h) := by decide

/-! ## One step on small states (95_test_vectors.md) -/

/-- Every register zero, running. -/
def blank : State := State.powerOn 0

/-- `code` placed at `at_`, the next instruction to run. -/
def placed (at_ : Word) (code : List Byte) (s : State) : State := (s.setPc at_).loadFrom at_.toNat code

/-- One step gives a next state that passes the check. -/
def runs (s : State) (check : State → Bool) : Bool :=
  match step s with
  | .next t => check t
  | .fault _ => false
  | .refused _ => false

/-- One step faults, with this fault. -/
def faultsWith (s : State) (f : Fault) : Bool :=
  match step s with
  | .next _ => false
  | .fault g => decide (g = f)
  | .refused _ => false

/-- V-L1. -/
theorem test_ld_b_c : runs (placed 0x0100 [0x41]
    { blank with bc := 0x007E })
    (fun t => t.bc == 0x7E7E && t.pc == 0x0101) = true := by decide

/-- V-L3. -/
theorem test_ld_d_d8 : runs (placed 0x0100 [0x16, 0xAB]
    blank)
    (fun t => t.de == 0xAB00 && t.pc == 0x0102) = true := by decide

/-- V-L4. -/
theorem test_ld_e_indhl : runs (placed 0x0100 [0x5E]
    (({ blank with hl := 0xC000 } : State).memWrite 0xC000 0x9C))
    (fun t => t.de == 0x009C && t.pc == 0x0101) = true := by decide

/-- V-L6. -/
theorem test_ld_indhl_h : runs (placed 0x0100 [0x74]
    { blank with hl := 0xC0DE })
    (fun t => t.memRead 0xC0DE == 0xC0 && t.hl == 0xC0DE) = true := by decide

/-- V-L7. -/
theorem test_ld_indhl_d8 : runs (placed 0x0100 [0x36, 0x77]
    { blank with hl := 0xC000 })
    (fun t => t.memRead 0xC000 == 0x77 && t.pc == 0x0102) = true := by decide

/-- V-L8. -/
theorem test_ld_a_indbc : runs (placed 0x0100 [0x0A]
    (({ blank with bc := 0x1234 } : State).memWrite 0x1234 0x56))
    (fun t => t.af == 0x5600) = true := by decide

/-- V-L9. -/
theorem test_ld_a_indde : runs (placed 0x0100 [0x1A]
    (({ blank with de := 0xFFFF } : State).memWrite 0xFFFF 0x11))
    (fun t => t.af == 0x1100) = true := by decide

/-- V-L10. -/
theorem test_ld_indbc_a : runs (placed 0x0100 [0x02]
    { blank with af := 0x9900, bc := 0xC001 })
    (fun t => t.memRead 0xC001 == 0x99) = true := by decide

/-- V-L11. -/
theorem test_ld_indde_a : runs (placed 0x0100 [0x12]
    { blank with af := 0x9800, de := 0xC002 })
    (fun t => t.memRead 0xC002 == 0x98) = true := by decide

/-- V-L12. -/
theorem test_ld_indhlinc_a : runs (placed 0x0100 [0x22]
    { blank with af := 0x5A00, hl := 0xFFFF })
    (fun t => t.memRead 0xFFFF == 0x5A && t.hl == 0x0000) = true := by decide

/-- V-L13. -/
theorem test_ld_indhldec_a : runs (placed 0x0100 [0x32]
    { blank with af := 0x5A00, hl := 0x0000 })
    (fun t => t.memRead 0x0000 == 0x5A && t.hl == 0xFFFF) = true := by decide

/-- V-L14. -/
theorem test_ld_a_indhlinc : runs (placed 0x0100 [0x2A]
    (({ blank with hl := 0xC0FF } : State).memWrite 0xC0FF 0x21))
    (fun t => t.af == 0x2100 && t.hl == 0xC100) = true := by decide

/-- V-L15. -/
theorem test_ld_a_indhldec : runs (placed 0x0100 [0x3A]
    (({ blank with hl := 0xC100 } : State).memWrite 0xC100 0x22))
    (fun t => t.af == 0x2200 && t.hl == 0xC0FF) = true := by decide

/-- V-L16. -/
theorem test_ldh_a8_a : runs (placed 0x0100 [0xE0, 0x80]
    { blank with af := 0x3C00 })
    (fun t => t.memRead 0xFF80 == 0x3C && t.pc == 0x0102) = true := by decide

/-- V-L17. -/
theorem test_ldh_a_a8 : runs (placed 0x0100 [0xF0, 0xFF]
    (blank.memWrite 0xFFFF 0x1F))
    (fun t => t.af == 0x1F00 && t.pc == 0x0102) = true := by decide

/-- V-L18. -/
theorem test_ld_indc_a : runs (placed 0x0100 [0xE2]
    { blank with af := 0x9000, bc := 0x0044 })
    (fun t => t.memRead 0xFF44 == 0x90 && t.pc == 0x0101) = true := by decide

/-- V-L19. -/
theorem test_ld_a_indc : runs (placed 0x0100 [0xF2]
    (blank.memWrite 0xFF00 0xCF))
    (fun t => t.af == 0xCF00) = true := by decide

/-- V-L20. -/
theorem test_ld_a16_a : runs (placed 0x0100 [0xEA, 0x34, 0xC2]
    { blank with af := 0xA500 })
    (fun t => t.memRead 0xC234 == 0xA5 && t.pc == 0x0103) = true := by decide

/-- V-L21. -/
theorem test_ld_a_a16 : runs (placed 0x0100 [0xFA, 0x34, 0xC2]
    (blank.memWrite 0xC234 0xA6))
    (fun t => t.af == 0xA600 && t.pc == 0x0103) = true := by decide

/-- V-K1. -/
theorem test_ld_bc_d16 : runs (placed 0x0100 [0x01, 0x34, 0x12]
    blank)
    (fun t => t.bc == 0x1234 && t.pc == 0x0103) = true := by decide

/-- V-K4. -/
theorem test_ld_a16_sp : runs (placed 0x0100 [0x08, 0x00, 0xC0]
    { blank with sp := 0xFFF8 })
    (fun t => t.memRead 0xC000 == 0xF8 && t.memRead 0xC001 == 0xFF) = true := by decide

/-- V-K5. -/
theorem test_ld_a16_sp_wraps : runs (placed 0x0100 [0x08, 0xFF, 0xFF]
    { blank with sp := 0x1234 })
    (fun t => t.memRead 0xFFFF == 0x34 && t.memRead 0x0000 == 0x12) = true := by decide

/-- V-K6. -/
theorem test_ld_sp_hl : runs (placed 0x0100 [0xF9]
    { blank with hl := 0xBEEF })
    (fun t => t.sp == 0xBEEF && t.af == 0) = true := by decide

/-- V-K8. -/
theorem test_ld_hl_sp_e8 : runs (placed 0x0100 [0xF8, 0x01]
    { blank with sp := 0x00FF })
    (fun t => t.hl == 0x0100 && t.af == 0x0030) = true := by decide

/-- V-K10. -/
theorem test_ld_hl_sp_minus128 : runs (placed 0x0100 [0xF8, 0x80]
    { blank with sp := 0x0100 })
    (fun t => t.hl == 0x0080 && t.af == 0) = true := by decide

/-- V-K11. -/
theorem test_push_af : runs (placed 0x0100 [0xF5]
    { blank with af := 0x12B0, sp := 0xD000 })
    (fun t => t.memRead 0xCFFF == 0x12 && t.memRead 0xCFFE == 0xB0 && t.sp == 0xCFFE) = true := by decide

/-- V-K14. -/
theorem test_push_de_wraps : runs (placed 0x0100 [0xD5]
    { blank with de := 0xABCD, sp := 0x0001 })
    (fun t => t.memRead 0x0000 == 0xAB && t.memRead 0xFFFF == 0xCD && t.sp == 0xFFFF) = true := by decide

/-- V-K12. -/
theorem test_pop_af_masks : runs (placed 0x0100 [0xF1]
    ((({ blank with sp := 0xCFFE } : State).memWrite 0xCFFE 0xFF).memWrite 0xCFFF 0x12))
    (fun t => t.af == 0x12F0 && t.sp == 0xD000) = true := by decide

/-- V-K15. -/
theorem test_pop_hl_wraps : runs (placed 0x0100 [0xE1]
    ((({ blank with sp := 0xFFFF } : State).memWrite 0xFFFF 0x34).memWrite 0x0000 0x12))
    (fun t => t.hl == 0x1234 && t.sp == 0x0001) = true := by decide

/-- V-I1. -/
theorem test_inc_b : runs (placed 0x0100 [0x04]
    { blank with af := 0x0010, bc := 0x0F00 })
    (fun t => t.bc == 0x1000 && t.af == 0x0030) = true := by decide

/-- V-I2. -/
theorem test_inc_a_wraps : runs (placed 0x0100 [0x3C]
    { blank with af := 0xFF00 })
    (fun t => t.af == 0x00A0) = true := by decide

/-- V-I3. -/
theorem test_inc_indhl : runs (placed 0x0100 [0x34]
    (({ blank with af := 0x0050, hl := 0xC000 } : State).memWrite 0xC000 0x7F))
    (fun t => t.memRead 0xC000 == 0x80 && t.af == 0x0030) = true := by decide

/-- V-I4. -/
theorem test_dec_c : runs (placed 0x0100 [0x0D]
    { blank with af := 0x0010, bc := 0x0001 })
    (fun t => t.bc == 0x0000 && t.af == 0x00D0) = true := by decide

/-- V-I5. -/
theorem test_dec_d_wraps : runs (placed 0x0100 [0x15]
    blank)
    (fun t => t.de == 0xFF00 && t.af == 0x0060) = true := by decide

/-- V-I8. -/
theorem test_inc_hl_pair : runs (placed 0x0100 [0x23]
    { blank with hl := 0xFFFF })
    (fun t => t.hl == 0x0000 && t.af == 0) = true := by decide

/-- S12. -/
theorem test_dec_bc_pair : runs (placed 0x0100 [0x0B]
    { blank with af := 0x00F0 })
    (fun t => t.bc == 0xFFFF && t.af == 0x00F0) = true := by decide

/-- V-I9. -/
theorem test_inc_sp_pair : runs (placed 0x0100 [0x33]
    { blank with sp := 0x00FF, af := 0x00F0 })
    (fun t => t.sp == 0x0100 && t.af == 0x00F0) = true := by decide

/-- V-I11. -/
theorem test_add_hl_bc : runs (placed 0x0100 [0x09]
    { blank with af := 0x0080, hl := 0x8A23, bc := 0x0605 })
    (fun t => t.hl == 0x9028 && t.af == 0x00A0) = true := by decide

/-- V-I12. -/
theorem test_add_hl_hl : runs (placed 0x0100 [0x29]
    { blank with hl := 0x8800 })
    (fun t => t.hl == 0x1000 && t.af == 0x0030) = true := by decide

/-- V-I15. -/
theorem test_add_sp_e8 : runs (placed 0x0100 [0xE8, 0x08]
    { blank with af := 0x0080, sp := 0xFFF8 })
    (fun t => t.sp == 0x0000 && t.af == 0x0030 && t.pc == 0x0102) = true := by decide

/-- V-I17. -/
theorem test_add_sp_minus128 : runs (placed 0x0100 [0xE8, 0x80]
    { blank with sp := 0xD000 })
    (fun t => t.sp == 0xCF80 && t.af == 0) = true := by decide

/-- V-A1. -/
theorem test_rlca : runs (placed 0x0100 [0x07]
    { blank with af := 0x80E0 })
    (fun t => t.af == 0x0110) = true := by decide

/-- S8b. -/
theorem test_rrca : runs (placed 0x0100 [0x0F]
    { blank with af := 0x9900 })
    (fun t => t.af == 0xCC10) = true := by decide

/-- V-A5. -/
theorem test_rla : runs (placed 0x0100 [0x17]
    { blank with af := 0x9510 })
    (fun t => t.af == 0x2B10) = true := by decide

/-- V-A7. -/
theorem test_rra : runs (placed 0x0100 [0x1F]
    { blank with af := 0x0190 })
    (fun t => t.af == 0x8010) = true := by decide

/-- V-A10. -/
theorem test_daa_adds_both : runs (placed 0x0100 [0x27]
    { blank with af := 0x9A00 })
    (fun t => t.af == 0x0090) = true := by decide

/-- S7. -/
theorem test_daa_subtracts_both : runs (placed 0x0100 [0x27]
    { blank with af := 0x3270 })
    (fun t => t.af == 0xCC50) = true := by decide

/-- V-A17. -/
theorem test_cpl : runs (placed 0x0100 [0x2F]
    { blank with af := 0x3590 })
    (fun t => t.af == 0xCAF0) = true := by decide

/-- V-A19. -/
theorem test_scf : runs (placed 0x0100 [0x37]
    { blank with af := 0x12E0 })
    (fun t => t.af == 0x1290) = true := by decide

/-- V-A20. -/
theorem test_ccf : runs (placed 0x0100 [0x3F]
    { blank with af := 0x00F0 })
    (fun t => t.af == 0x0080) = true := by decide

/-- V-ALU1. -/
theorem test_add_a_b : runs (placed 0x0100 [0x80]
    { blank with af := 0x3A00, bc := 0xC600 })
    (fun t => t.af == 0x00B0) = true := by decide

/-- V-ALU6. -/
theorem test_adc_a_d8 : runs (placed 0x0100 [0xCE, 0x00]
    { blank with af := 0xFF10 })
    (fun t => t.af == 0x00B0 && t.pc == 0x0102) = true := by decide

/-- V-ALU11. -/
theorem test_sub_indhl : runs (placed 0x0100 [0x96]
    (({ blank with af := 0x3E00, hl := 0xC000 } : State).memWrite 0xC000 0x40))
    (fun t => t.af == 0xFE50) = true := by decide

/-- V-ALU13. -/
theorem test_sbc_a_h : runs (placed 0x0100 [0x9C]
    { blank with af := 0x3B10, hl := 0x2A00 })
    (fun t => t.af == 0x1040) = true := by decide

/-- V-ALU16. -/
theorem test_sbc_a_d8_borrows : runs (placed 0x0100 [0xDE, 0xFF]
    { blank with af := 0x0010 })
    (fun t => t.af == 0x00F0) = true := by decide

/-- V-ALU18. -/
theorem test_and_l : runs (placed 0x0100 [0xA5]
    { blank with af := 0x5A50, hl := 0x003F })
    (fun t => t.af == 0x1A20) = true := by decide

/-- V-ALU22. -/
theorem test_xor_d8 : runs (placed 0x0100 [0xEE, 0x0F]
    { blank with af := 0xFF00 })
    (fun t => t.af == 0xF000) = true := by decide

/-- V-ALU24. -/
theorem test_or_c : runs (placed 0x0100 [0xB1]
    { blank with af := 0x00F0 })
    (fun t => t.af == 0x0080) = true := by decide

/-- V-ALU28. -/
theorem test_cp_d8 : runs (placed 0x0100 [0xFE, 0x40]
    { blank with af := 0x3C00 })
    (fun t => t.af == 0x3C50) = true := by decide

/-- V-J2. -/
theorem test_jr_back : runs (placed 0x0200 [0x18, 0xFE]
    blank)
    (fun t => t.pc == 0x0200) = true := by decide

/-- V-J6. -/
theorem test_jr_wraps : runs (placed 0x0004 [0x18, 0xF0]
    blank)
    (fun t => t.pc == 0xFFF6) = true := by decide

/-- S13. -/
theorem test_jr_nz_taken : runs (placed 0x0100 [0x20, 0x05]
    blank)
    (fun t => t.pc == 0x0107) = true := by decide

/-- V-J8. -/
theorem test_jr_nc_not_taken : runs (placed 0x0200 [0x30, 0x03]
    { blank with af := 0x0010 })
    (fun t => t.pc == 0x0202) = true := by decide

/-- V-J10. -/
theorem test_jp_a16 : runs (placed 0x0100 [0xC3, 0x50, 0x01]
    blank)
    (fun t => t.pc == 0x0150) = true := by decide

/-- S13. -/
theorem test_jp_z_taken : runs (placed 0x0100 [0xCA, 0x34, 0x12]
    { blank with af := 0x0080 })
    (fun t => t.pc == 0x1234) = true := by decide

/-- V-J14. -/
theorem test_jp_hl : runs (placed 0x0100 [0xE9]
    { blank with hl := 0x4000 })
    (fun t => t.pc == 0x4000) = true := by decide

/-- V-J15. -/
theorem test_call_a16 : runs (placed 0x1234 [0xCD, 0x00, 0x20]
    { blank with sp := 0xD000 })
    (fun t => t.memRead 0xCFFF == 0x12 && t.memRead 0xCFFE == 0x37 && t.sp == 0xCFFE && t.pc == 0x2000) = true := by decide

/-- V-J19. -/
theorem test_call_wraps : runs (placed 0xFFFE [0xCD, 0x00, 0x20]
    { blank with sp := 0xD000 })
    (fun t => t.memRead 0xCFFF == 0x00 && t.memRead 0xCFFE == 0x01 && t.pc == 0x2000) = true := by decide

/-- V-J16. -/
theorem test_call_nz_not_taken : runs (placed 0x1234 [0xC4, 0x00, 0x20]
    { blank with af := 0x0080, sp := 0xD000 })
    (fun t => t.pc == 0x1237 && t.sp == 0xD000) = true := by decide

/-- V-J20. -/
theorem test_ret : runs (placed 0x0100 [0xC9]
    ((({ blank with sp := 0xCFFE } : State).memWrite 0xCFFE 0x37).memWrite 0xCFFF 0x12))
    (fun t => t.pc == 0x1237 && t.sp == 0xD000 && !t.ime) = true := by decide

/-- V-J21. -/
theorem test_reti : runs (placed 0x0100 [0xD9]
    ((({ blank with sp := 0xCFFE } : State).memWrite 0xCFFE 0x37).memWrite 0xCFFF 0x12))
    (fun t => t.pc == 0x1237 && t.sp == 0xD000 && t.ime) = true := by decide

/-- V-J25. -/
theorem test_ret_c_not_taken : runs (placed 0x0100 [0xD8]
    ((({ blank with sp := 0xCFFE } : State).memWrite 0xCFFE 0x37).memWrite 0xCFFF 0x12))
    (fun t => t.pc == 0x0101 && t.sp == 0xCFFE) = true := by decide

/-- V-J31. -/
theorem test_rst_28 : runs (placed 0x1234 [0xEF]
    { blank with sp := 0xD000 })
    (fun t => t.memRead 0xCFFF == 0x12 && t.memRead 0xCFFE == 0x35 && t.sp == 0xCFFE && t.pc == 0x0028) = true := by decide

/-- V-Y1. -/
theorem test_nop : runs (placed 0x0100 [0x00]
    { blank with af := 0x00F0 })
    (fun t => t.pc == 0x0101 && t.af == 0x00F0) = true := by decide

/-- V-Y2. -/
theorem test_halt : runs (placed 0x0100 [0x76]
    { blank with ime := true })
    (fun t => decide (t.run = .halted) && t.pc == 0x0101) = true := by decide

/-- V-Y3. -/
theorem test_halt_no_op : runs (placed 0x0100 [0x76]
    blank)
    (fun t => decide (t.run = .running) && t.pc == 0x0101) = true := by decide

/-- V-Y5. -/
theorem test_stop : runs (placed 0x0100 [0x10, 0x00]
    blank)
    (fun t => decide (t.run = .stopped) && t.pc == 0x0101) = true := by decide

/-- V-Y7. -/
theorem test_di : runs (placed 0x0100 [0xF3]
    { blank with ime := true })
    (fun t => !t.ime) = true := by decide

/-- V-Y8. -/
theorem test_ei : runs (placed 0x0100 [0xFB]
    blank)
    (fun t => t.ime) = true := by decide

/-- V-Y11. -/
theorem test_invalid_slot : faultsWith (placed 0x0150 [0xD3] blank) (.invalidOpcode 0xD3 0x0150) = true := by decide

/-- V-Y20. -/
theorem test_invalid_slot_fc : faultsWith (placed 0x0150 [0xFC] blank) (.invalidOpcode 0xFC 0x0150) = true := by decide

/-- A held core (V-Y4, second step): nothing changes. -/
theorem test_halted_holds : runs (placed 0x0101 [0x3C] { blank with run := .halted })
    (fun t => t.pc == 0x0101 && t.af == 0x0000 && decide (t.run = .halted)) = true := by decide

/-- The first step runs HALT, the second holds: two outcomes, though the host sees `next` twice (R9, R320). -/
theorem test_halt_then_hold :
    let s := placed 0x0100 [0x76, 0x3C] { blank with ime := true }
    cycle s = .next { s with pc := 0x0101, run := .halted } ∧
      cycle { s with pc := 0x0101, run := .halted } = .hold ∧ cycle { s with run := .stopped } = .hold :=
  ⟨rfl, rfl, rfl⟩

/-- V-B1. -/
theorem test_rlc_b : runs (placed 0x0100 [0xCB, 0x00]
    { blank with bc := 0x8500 })
    (fun t => t.bc == 0x0B00 && t.af == 0x0010 && t.pc == 0x0102) = true := by decide

/-- V-B2. -/
theorem test_rlc_a_zero : runs (placed 0x0100 [0xCB, 0x07]
    { blank with af := 0x00F0 })
    (fun t => t.af == 0x0080) = true := by decide

/-- V-B4. -/
theorem test_rrc_c : runs (placed 0x0100 [0xCB, 0x09]
    { blank with bc := 0x0001 })
    (fun t => t.bc == 0x0080 && t.af == 0x0010) = true := by decide

/-- V-B7. -/
theorem test_rl_d : runs (placed 0x0100 [0xCB, 0x12]
    { blank with af := 0x0010, de := 0x1100 })
    (fun t => t.de == 0x2300 && t.af == 0) = true := by decide

/-- V-B9. -/
theorem test_rr_e : runs (placed 0x0100 [0xCB, 0x1B]
    { blank with af := 0x0010, de := 0x008A })
    (fun t => t.de == 0x00C5 && t.af == 0) = true := by decide

/-- V-B11. -/
theorem test_sla_h : runs (placed 0x0100 [0xCB, 0x24]
    { blank with hl := 0x8000 })
    (fun t => t.hl == 0x0000 && t.af == 0x0090) = true := by decide

/-- V-B12. -/
theorem test_sra_a : runs (placed 0x0100 [0xCB, 0x2F]
    { blank with af := 0x8A00 })
    (fun t => t.af == 0xC500) = true := by decide

/-- V-B17. -/
theorem test_swap_indhl : runs (placed 0x0100 [0xCB, 0x36]
    (({ blank with hl := 0xC000 } : State).memWrite 0xC000 0x5A))
    (fun t => t.memRead 0xC000 == 0xA5 && t.af == 0) = true := by decide

/-- V-B18. -/
theorem test_srl_indhl : runs (placed 0x0100 [0xCB, 0x3E]
    (({ blank with hl := 0xC000 } : State).memWrite 0xC000 0xFF))
    (fun t => t.memRead 0xC000 == 0x7F && t.af == 0x0010) = true := by decide

/-- V-B21. -/
theorem test_bit_7_h : runs (placed 0x0100 [0xCB, 0x7C]
    { blank with af := 0x0010, hl := 0x7F00 })
    (fun t => t.af == 0x00B0 && t.hl == 0x7F00) = true := by decide

/-- V-B25. -/
theorem test_res_7_indhl : runs (placed 0x0100 [0xCB, 0xBE]
    (({ blank with hl := 0xC000 } : State).memWrite 0xC000 0xFF))
    (fun t => t.memRead 0xC000 == 0x7F && t.af == 0) = true := by decide

/-- V-B28. -/
theorem test_set_1_e : runs (placed 0x0100 [0xCB, 0xCB]
    blank)
    (fun t => t.de == 0x0002) = true := by decide

/-- V-B30. -/
theorem test_swap_across_the_wrap : runs (placed 0xFFFF [0xCB, 0x37]
    { blank with af := 0x1200 })
    (fun t => t.af == 0x2100 && t.pc == 0x0001) = true := by decide

/-- S1: the low nibble of `F` is dropped on a write, the other half of the pair kept. -/
theorem test_write_f_masks : (State.setReg8 { blank with af := 0x1200 } .f 0xFF).af = 0x12F0 ∧
    (State.setReg8 { blank with bc := 0x1234 } .b 0xAB).bc = 0xAB34 := by decide

/-- V-Y25: the host's Reset. -/
theorem test_host_reset :
    let s : State := { blank with af := 0x12F0, sp := 4, pc := 5, ime := true, run := .halted }.memWrite 0xC000 0x77
    s.hostReset.af = 0 ∧ s.hostReset.sp = 0 ∧ s.hostReset.pc = 0 ∧ s.hostReset.ime = true ∧
      s.hostReset.run = .halted ∧ s.hostReset.memRead 0xC000 = 0x77 := by decide

/-- A word laid out by the host runs as the first instruction after reset (LD BC,0x1234; SET 1,E; an invalid slot). -/
theorem test_with_fetch_word :
    runs (State.reset.withFetchWord 24 0x123401) (fun t => t.bc == 0x1234 && t.pc == 3) = true ∧
    runs (State.reset.withFetchWord 16 0xCBCB) (fun t => t.de == 0x0002 && t.pc == 2) = true ∧
    faultsWith (State.reset.withFetchWord 8 0xD3) (.invalidOpcode 0xD3 0) = true := by decide

/-- A store keeps the listed addresses rising, and writing again replaces the entry. -/
theorem test_memory_list : (((blank.memWrite 5 1).memWrite 3 2).memWrite 5 7).mem = [(3, 2), (5, 7)] := by decide

/-! ## Witnesses: for each statement with hypotheses, concrete values that meet them together -/

/-- LD A,5 at 0x0150, a NOP after it. -/
def atLoad : State := placed 0x0150 [0x3E, 0x05, 0x00] blank

/-- The state after LD A,5. -/
def afterLoad : State :=
  { blank with af := 0x0500, pc := 0x0152, mem := [(0x0150, 0x3E), (0x0151, 0x05), (0x0152, 0x00)] }

/-- An invalid slot at the highest address. -/
def atInvalid : State := placed 0xFFFF [0xFD] blank

theorem test_witness_DecodeOfEncodeIsTheInstruction :
    (Instr.ldAD8 0xFF).wf = true ∧ (Instr.jpA16 0xFFFF).wf = true ∧ (Instr.setBR8 7 .a).wf = true := by decide

theorem test_witness_EncodeOfDecodeIsTheBytes :
    decode [0xC3, 0x50, 0x01, 0xCB] = .ok (.jpA16 0x0150) [0xCB] ∧ decode [0xCB, 0xFF] = .ok (.setBR8 7 .a) [] := by
  decide

theorem test_witness_FirstByteDecidesLength :
    encode .halt = [0x76] ∧ encode (.prefixCb 0) = [0xCB, 0x00] ∧ encode (.callA16 0x2000) = [0xCD, 0x00, 0x20] := by
  decide

theorem test_witness_StepRunsDecodedInstruction : atLoad.run = .running ∧
    decode (atLoad.readRange atLoad.pc 3) = .ok (.ldAD8 0x05) [0x00] := by decide

/-- Both ways to have ended, and one host operation of each kind. -/
theorem test_witness_HeldStepsChangeNothing :
    let s : State := { blank with run := .halted }
    Ended s ∧ Ended { blank with run := .stopped } ∧ HostMove s s.hostReset ∧ HostMove s (s.setReg8 .a 1) ∧
      HostMove s (s.setReg16 .af 0xFFFF) ∧ HostMove s (s.memWrite 0xFFFF 0xAA) ∧
      HostMove s (s.loadFrom 0 [0x76]) ∧ HostMove s s.memoryLost :=
  ⟨(fun h => by cases h), (fun h => by cases h), .reset _, .writeReg8 _ .a 1, .writeReg16 _ .af 0xFFFF, .writeByte _ 0xFFFF 0xAA,
    .load _ _ [0x76] rfl, .loadFailed _ _ (List.replicate 65537 0) 65537
      (by simp only [hostLoad, Config.memSize, List.length_replicate]; rfl)⟩

theorem test_witness_HeldStepsChangeNothing_outcomes :
    cycle atLoad = .next afterLoad ∧ cycle atInvalid = .fault (.invalidOpcode 0xFD 0xFFFF) ∧
      cycle { atLoad with run := .halted } = .hold ∧ cycle { atInvalid with run := .stopped } = .hold :=
  ⟨rfl, rfl, rfl, rfl⟩

theorem test_witness_InvalidSlotFaults :
    atInvalid.run = .running ∧ atInvalid.memRead atInvalid.pc ∈ invalidSlots := by decide

theorem test_witness_StepFaultsOnlyOnInvalidSlots :
    step atInvalid = .fault (.invalidOpcode 0xFD 0xFFFF) := rfl

theorem test_witness_EveryDefinedOpcodeRuns :
    atLoad.run = .running ∧ atLoad.memRead atLoad.pc ∉ invalidSlots := by decide

theorem test_witness_StepKeepsFlagNibbleAndMemoryForm : atLoad.Inv ∧ step atLoad = .next afterLoad :=
  ⟨⟨by decide, by decide⟩, rfl⟩

/-- A state reached by power-on, a host load, host writes and a step. -/
theorem test_witness_ReachableStatesKeepInvariant : Reachable afterLoad :=
  .step atLoad _
    (.host (((blank.setReg16 .pc 0x0150).memWrite 0x0150 0x3E).memWrite 0x0151 0x05) _
      (.host ((blank.setReg16 .pc 0x0150).memWrite 0x0150 0x3E) _
        (.host (blank.setReg16 .pc 0x0150) _
          (.host blank _ (.powerOn 0 (by decide)) (.writeReg16 _ .pc 0x0150))
          (.writeByte _ 0x0150 0x3E))
        (.writeByte _ 0x0151 0x05))
      (.writeByte _ 0x0152 0x00))
    rfl

theorem test_witness_PowerOnMeetsInvariant : (0xFFF0 : Word) &&& 0x000F = 0 ∧ (0 : Word) &&& 0x000F = 0 := by decide

theorem test_witness_LatchWrittenOnlyByDiEiReti :
    exec .ei blank = .next { blank with ime := true } ∧
    exec .reti (blank.memWrite16 0 0x1234) =
      .next { (blank.memWrite16 0 0x1234) with pc := 0x1234, sp := 2, ime := true } ∧
    exec .di { blank with ime := true } = .next blank ∧
    exec .incC { blank with ime := true } = .next { blank with ime := true, bc := 1 } ∧ Instr.incC ≠ .halt :=
  ⟨rfl, rfl, rfl, rfl, by decide⟩

theorem test_witness_RunStateWrittenOnlyByHaltAndStop :
    exec .halt { blank with ime := true } = .next { blank with ime := true, run := .halted } ∧
    exec .stop blank = .next { blank with run := .stopped } ∧ RunState.halted ≠ .running ∧
    RunState.stopped ≠ .running :=
  ⟨rfl, rfl, by decide, by decide⟩

/-- A form that stores two bytes across the wrap, and one that stores none. -/
theorem test_witness_OnlyStoredBytesChange :
    exec .pushBc { blank with bc := 0x1234, sp := 1 } =
      .next { blank with bc := 0x1234, sp := 0xFFFF, mem := [(0, 0x12), (0xFFFF, 0x34)] } ∧
    (0x0001 : Word) ∉ storedBy .pushBc { blank with bc := 0x1234, sp := 1 } ∧
    (0xFFFE : Word) ∉ storedBy .pushBc { blank with bc := 0x1234, sp := 1 } ∧
    exec .cpB blank = .next { blank with af := 0x00C0 } ∧ (0x0000 : Word) ∉ storedBy .cpB blank :=
  ⟨rfl, by decide, by decide, rfl, by decide⟩

theorem test_witness_OnlyListedFlagsChange :
    exec .incC { blank with af := 0x0010 } = .next { blank with af := 0x0010, bc := 1 } ∧
    FlagName.c ∉ flagsWritten (encode .incC) ∧ Instr.incC ≠ .popAf :=
  ⟨rfl, by decide, by decide⟩

theorem test_witness_PcAndSpWrittenOnlyByTheirInstructions :
    exec .incC blank = .next { blank with bc := 1 } ∧ transfersControl .incC = false ∧ writesSp .incC = false ∧
    exec .jpHl { blank with hl := 0xFFFF } = .next { blank with hl := 0xFFFF, pc := 0xFFFF } ∧
    writesSp .jpHl = false :=
  ⟨rfl, by decide, by decide, rfl, by decide⟩

theorem test_witness_AliasReadsBackAndSparesItsHalf :
    Reg8.f = .f ∧ Reg8.a ≠ .f ∧ Reg8.a ∉ [Reg8.f] ∧ Reg16.af = .af ∧ Reg16.bc ≠ .af ∧ Reg16.pc ≠ .bc := by decide

theorem test_witness_MemoryReadsTheLastWrite : (0x0000 : Word) ≠ 0xFFFF := by decide

theorem test_witness_LoadRegisterFromRegister : R8.b ≠ .indHl ∧ R8.a ≠ .indHl := by decide

theorem test_witness_LoadAndStoreThroughHl : R8.h ≠ .indHl ∧ R8.l ≠ .indHl := by decide

theorem test_witness_PopLoadsThePairAndMasksF : StackPair.af = .af ∧ StackPair.bc ≠ .af := by decide

theorem test_witness_PushThenPopRestores :
    ({ blank with af := 0x12B0 } : State).f &&& 0x0F = 0 ∧
    exec (pushOp .af) { blank with af := 0x12B0 } =
      .next { blank with af := 0x12B0, sp := 0xFFFE, mem := [(0xFFFE, 0xB0), (0xFFFF, 0x12)] } :=
  ⟨by decide, rfl⟩

theorem test_witness_LoadPairFromImmediate_and_IncrementAndDecrementPair : Pair.bc ≠ .sp ∧ Pair.hl ≠ .sp := by decide

theorem test_witness_DecimalAdjust :
    ({ blank with af := 0x9940 } : State).fN = true ∧ ({ blank with af := 0x9A30 } : State).fN = false := by decide

/-- Each condition held and not held. -/
theorem test_witness_RelativeJumps_and_CallsPushTheReturnAddress_and_ReturnsPopTheAddress :
    let set : State := { blank with af := 0x0090 }
    set.cond .z = true ∧ set.cond .c = true ∧ set.cond .nz = false ∧ set.cond .nc = false ∧
      blank.cond .z = false ∧ blank.cond .c = false ∧ blank.cond .nz = true ∧ blank.cond .nc = true := by decide

theorem test_witness_ConditionTable :
    ({ blank with bc := 0xFFFF } : State).flags = blank.flags ∧ (encode (jrOp .c 0x80)).head? = some 0x38 ∧
    (encode (jpOp .nc 0xFFFF)).head? = some 0xD2 ∧ (encode (callOp .z 0)).head? = some 0xCC ∧
    (encode (retOp .nz)).head? = some 0xC0 := by decide

/-- The four conditional instructions at the end of the address space, not taken. -/
theorem test_witness_ConditionalsConsumeImmediates :
    let jr := placed 0xFFFE [0x20, 0x80, 0x00] { blank with af := 0x0080 }
    let jp := placed 0xFFFE [0xCA, 0x34, 0x12] blank
    let call := placed 0xFFFE [0xDC, 0x34, 0x12] blank
    let ret := placed 0xFFFE [0xD0, 0x00, 0x00] { blank with af := 0x0010 }
    (jr.run = .running ∧ jr.cond .nz = false ∧ decode (jr.readRange jr.pc 3) = .ok (jrOp .nz 0x80) [0x00]) ∧
    (jp.run = .running ∧ jp.cond .z = false ∧ decode (jp.readRange jp.pc 3) = .ok (jpOp .z 0x1234) []) ∧
    (call.run = .running ∧ call.cond .c = false ∧
      decode (call.readRange call.pc 3) = .ok (callOp .c 0x1234) []) ∧
    (ret.run = .running ∧ ret.cond .nc = false ∧
      decode (ret.readRange ret.pc 3) = .ok (retOp .nc) [0x00, 0x00]) := by decide

theorem test_witness_HaltDependsOnTheLatch :
    ({ blank with ime := true } : State).ime = true ∧ blank.ime = false := by decide

/-- An image of the full size, one byte more, a byte of an image, an address beyond it. -/
theorem test_witness_HostLoadCopiesOrReportsOversize :
    (List.replicate 65536 (0 : Byte)).length ≤ 65536 ∧ 65536 < (List.replicate 65537 (0 : Byte)).length ∧
    ([0x3E, 0x05] : List Byte)[1]? = some 0x05 ∧ ([0x3E, 0x05] : List Byte).length ≤ (0x0002 : Word).toNat :=
  ⟨by simp only [List.length_replicate]; decide, by simp only [List.length_replicate]; decide, by decide, by decide⟩

end Sys2Proof.Tests
end

section
/-! The outcomes of one instruction, a core that is not running, and what host operations leave of `RUN`. -/

namespace Sys2Proof.Machine

variable {s t : State}

/-! ## What one instruction can answer -/

/-- A 0xCB term runs the selected entry of the extension table, and every entry answers a next state (R276, R92). -/
theorem execPrefixCb_next (op2 : Byte) (s : State) : ∃ t, execPrefixCb op2 s = .next t := by
  unfold execPrefixCb
  dsimp only
  split
  · split <;> exact ⟨_, rfl⟩
  all_goals exact ⟨_, rfl⟩

/-- An instruction answers a next state, or it is one of the eleven invalid slots and faults with its own opcode byte
(R277, R321): no instruction is refused. -/
theorem exec_next_or_invalidOpcode (i : Instr) (s : State) :
    (∃ t, exec i s = .next t) ∨
      ∃ op ∈ invalidSlots, encode i = [op] ∧ exec i s = .fault (.invalidOpcode op (s.pc - 1)) := by
  cases i
  case prefixCb op2 => exact .inl (execPrefixCb_next op2 s)
  case invalidD3 | invalidDB | invalidDD | invalidE3 | invalidE4 | invalidEB | invalidEC | invalidED | invalidF4 |
      invalidFC | invalidFD => exact .inr ⟨_, by decide, rfl, rfl⟩
  all_goals exact .inl ⟨_, rfl⟩

/-! ## A core that is not running holds -/

theorem cycle_of_ended (h : Ended s) : cycle s = .hold := by
  unfold cycle
  cases hr : s.run with
  | running => exact absurd hr h
  | halted | stopped => rfl

theorem running_of_cycle_ne_hold (h : cycle s ≠ .hold) : s.run = .running :=
  by_contra fun hEnded => h (cycle_of_ended hEnded)

theorem cycle_eq_hold_iff (s : State) : cycle s = .hold ↔ Ended s := by
  refine ⟨fun hHold hRun => ?_, cycle_of_ended⟩
  rw [cycle_of_running hRun] at hHold
  exact StepOutcome.ofExec_ne_hold _ hHold

/-- The spec's three outcomes (R9): `refused` is none of them. -/
theorem cycle_next_or_fault_or_hold (s : State) :
    (∃ t, cycle s = .next t) ∨ (∃ f, cycle s = .fault f) ∨ cycle s = .hold := by
  by_cases hRun : s.run = .running
  · rw [cycle_of_running hRun, runInstr]
    obtain ⟨t, ht⟩ | ⟨op, -, -, hf⟩ := exec_next_or_invalidOpcode (s.instrAt s.pc) s.pastInstr
    · exact .inl ⟨t, by rw [ht, StepOutcome.ofExec_next]⟩
    · exact .inr (.inl ⟨_, by rw [hf, StepOutcome.ofExec_fault]⟩)
  · exact .inr (.inr (cycle_of_ended hRun))

theorem running_and_step_of_cycle_next (h : cycle s = .next t) : s.run = .running ∧ step s = .next t :=
  ⟨running_of_cycle_ne_hold (by simp [h]), by simp [step, h]⟩

theorem running_and_step_of_cycle_fault {f : Fault} (h : cycle s = .fault f) :
    s.run = .running ∧ step s = .fault f :=
  ⟨running_of_cycle_ne_hold (by simp [h]), by simp [step, h]⟩

/-- The host sees `Hold` as the same state again (log 3). -/
theorem step_of_ended (h : Ended s) : step s = .next s := by simp [step, cycle_of_ended h]

/-! ## Runs of several steps -/

theorem core_run_succ_of_next (M : Host.Core) {s t : M.State} (h : M.step s = .next t) (n : Nat) :
    M.run (n + 1) s = M.run n t := by
  rw [Host.Core.run, h]

theorem core_run_of_ended (h : Ended s) (n : Nat) : Sys2Proof.core.run n s = .next s := by
  induction n with
  | zero => rfl
  | succ n ih => exact (core_run_succ_of_next Sys2Proof.core (step_of_ended h) n).trans ih

/-! ## Host operations between steps leave `RUN` as it was (R36, R37, R61) -/

@[simp] theorem State.setReg8_run (s : State) (r : Reg8) (v : Byte) : (s.setReg8 r v).run = s.run := by
  cases r <;> rfl

@[simp] theorem State.setReg16_run (s : State) (r : Reg16) (v : Word) : (s.setReg16 r v).run = s.run := by
  cases r <;> rfl

@[simp] theorem State.loadFrom_run (s : State) (k : Nat) (bytes : List Byte) : (s.loadFrom k bytes).run = s.run := by
  induction bytes generalizing s k with
  | nil => rfl
  | cons b bs ih => rw [State.loadFrom, ih, State.memWrite_run]

@[simp] theorem State.memoryLost_run (s : State) : s.memoryLost.run = s.run := rfl

theorem hostLoad_eq_loaded {bytes : List Byte} (h : hostLoad bytes s = .loaded t) : t = s.loadFrom 0 bytes := by
  unfold hostLoad at h
  split at h
  · exact (LoadResult.loaded.inj h).symm
  · cases h

theorem hostLoad_eq_oversize {bytes : List Byte} {n : Nat} (h : hostLoad bytes s = .oversize n t) :
    t = s.memoryLost := by
  unfold hostLoad at h
  split at h
  · cases h
  · exact (LoadResult.oversize.inj h).2.symm

theorem HostMove.run_eq (h : HostMove s t) : t.run = s.run := by
  cases h with
  | reset => exact State.hostReset_run s
  | load _ bytes hLoad => rw [hostLoad_eq_loaded hLoad, State.loadFrom_run]
  | loadFailed _ bytes n hLoad => rw [hostLoad_eq_oversize hLoad, State.memoryLost_run]
  | writeReg8 r v => exact State.setReg8_run s r v
  | writeReg16 r v => exact State.setReg16_run s r v
  | writeByte a v => exact State.memWrite_run s a v

theorem HostMove.ended (h : HostMove s t) (hEnded : Ended s) : Ended t := by
  unfold Ended
  rw [h.run_eq]
  exact hEnded

/-! ## The obligation -/

/-- Settles O6: an instruction is never refused and never holds, a core that is not running does nothing but hold, and
no host operation writes `RUN`. -/
theorem heldStepsChangeNothing : Obligations.HeldStepsChangeNothing :=
  ⟨cycle_next_or_fault_or_hold, cycle_eq_hold_iff, fun _ _ => running_and_step_of_cycle_next,
    fun _ _ => running_and_step_of_cycle_fault,
    fun _ hEnded => ⟨step_of_ended hEnded, core_run_of_ended hEnded,
      fun _ hMove => ⟨hMove.run_eq, hMove.ended hEnded⟩⟩⟩

end Sys2Proof.Machine
end

section
/-! What an instruction may write, said once for all of them (10_state.md R20, R22, R23, R28 to R30). -/

namespace Sys2Proof.Machine

/-- A flag of the four by name. -/
def Flags.get (g : Flags) : FlagName → Bool
  | .z => g.z
  | .n => g.n
  | .h => g.h
  | .c => g.c

@[simp] theorem State.setA_flags (s : State) (v : Byte) : (s.setA v).flags = s.flags := State.r8set_flags s .a v

theorem State.flag_eq_flags_get (s : State) (q : FlagName) : s.flag q = s.flags.get q := by cases q <;> rfl

/-- `t` is `s` after writes that the tables of 10_state.md allow the instruction `i`: the flags of R22, `sp` and `pc`
by R20 and R28, `AF` as a word by POP AF alone (R23), `IME` by R29 and `RUN` by R30. Operands, pairs and memory are
free. -/
inductive Writes (i : Instr) (s : State) : State → Prop
  | none : Writes i s s
  | r8set {t} (h : Writes i s t) (r : R8) (v : Byte) : Writes i s (t.r8set r v)
  | memWrite {t} (h : Writes i s t) (a : Word) (v : Byte) : Writes i s (t.memWrite a v)
  | setBc {t} (h : Writes i s t) (v : Word) : Writes i s (t.setBc v)
  | setDe {t} (h : Writes i s t) (v : Word) : Writes i s (t.setDe v)
  | setHl {t} (h : Writes i s t) (v : Word) : Writes i s (t.setHl v)
  | setAf {t} (h : Writes i s t) (hi : i = .popAf) (v : Word) : Writes i s (t.setAf v)
  | setFlags {t} (h : Writes i s t) (g : Flags)
      (hg : ∀ q, q ∉ flagsWritten (encode i) → g.get q = t.flags.get q) : Writes i s (t.setFlags g)
  | setSp {t} (h : Writes i s t) (hi : writesSp i = true) (v : Word) : Writes i s (t.setSp v)
  | setPc {t} (h : Writes i s t) (hi : transfersControl i = true) (v : Word) : Writes i s (t.setPc v)
  | setIme {t} (h : Writes i s t) (hi : i = .ei ∨ i = .reti ∨ i = .di) (b : Bool) : Writes i s (t.setIme b)
  | halted {t} (h : Writes i s t) (hi : i = .halt) (hIme : s.ime = true) : Writes i s (t.setRun .halted)
  | stopped {t} (h : Writes i s t) (hi : i = .stop) : Writes i s (t.setRun .stopped)

namespace Writes

variable {i : Instr} {s t : State}

/-! ## What such writes keep -/

theorem inv (h : Writes i s t) (hs : s.Inv) : t.Inv := by
  induction h with
  | none => exact hs
  | r8set _ r v ih => exact Inv_r8set ih r v
  | memWrite _ a v ih => exact Inv_memWrite ih a v
  | setAf _ _ v ih => exact Inv_setAf ih v
  | setFlags _ g _ ih => exact Inv_setFlags ih g
  | setBc _ _ ih | setDe _ _ ih | setHl _ _ ih | setSp _ _ _ ih | setPc _ _ _ ih | setIme _ _ _ ih
  | halted _ _ _ ih | stopped _ _ ih => exact ih

theorem sp_eq (h : Writes i s t) (hi : writesSp i = false) : t.sp = s.sp := by
  induction h with
  | setSp _ hSp => exact absurd hSp (by simp [hi])
  | none => rfl
  | r8set _ r v ih => rw [State.r8set_sp, ih]
  | _ => assumption

theorem pc_eq (h : Writes i s t) (hi : transfersControl i = false) : t.pc = s.pc := by
  induction h with
  | setPc _ hPc => exact absurd hPc (by simp [hi])
  | none => rfl
  | r8set _ r v ih => rw [State.r8set_pc, ih]
  | _ => assumption

theorem ime_eq (h : Writes i s t) (hi : ¬ (i = .ei ∨ i = .reti ∨ i = .di)) : t.ime = s.ime := by
  induction h with
  | setIme _ hIme => exact absurd hIme hi
  | none => rfl
  | r8set _ r v ih => rw [State.r8set_ime, ih]
  | _ => assumption

theorem run_cases (h : Writes i s t) :
    t.run = s.run ∨ (i = .halt ∧ s.ime = true ∧ t.run = .halted) ∨ (i = .stop ∧ t.run = .stopped) := by
  induction h with
  | none => exact .inl rfl
  | halted _ hi hIme => exact .inr (.inl ⟨hi, hIme, rfl⟩)
  | stopped _ hi => exact .inr (.inr ⟨hi, rfl⟩)
  | r8set _ r v ih => rwa [State.r8set_run]
  | _ => assumption

theorem flags_get_eq (h : Writes i s t) {q : FlagName} (hq : q ∉ flagsWritten (encode i)) :
    t.flags.get q = s.flags.get q := by
  induction h with
  | setAf _ hi => subst hi; cases q <;> exact absurd (by decide) hq
  | setFlags _ g hg ih => rw [State.setFlags_flags, hg q hq, ih]
  | none => rfl
  | r8set _ r v ih => rw [State.r8set_flags, ih]
  | _ => assumption

theorem f_lowNibble_eq (h : Writes i s t) (hi : i ≠ .popAf) : t.f &&& 0x0F = s.f &&& 0x0F := by
  induction h with
  | setAf _ hAf => exact absurd hAf hi
  | setFlags _ g _ ih => rw [State.setFlags_f, ← ih]; exact withFlagBits_lowNibble _ g
  | none => rfl
  | r8set _ r v ih => rw [State.r8set_f, ih]
  | _ => assumption

/-! ## Flag writes, by the rows of R22's table -/

/-- All four flags may change. -/
theorem setFlags_all (h : Writes i s t) (hi : flagsWritten (encode i) = [.z, .n, .h, .c]) (g : Flags) :
    Writes i s (t.setFlags g) :=
  h.setFlags g fun q hq => absurd (by rw [hi]; cases q <;> decide) hq

/-- All flags but the carry may change, and the carry is passed as it is. -/
theorem setFlags_znh (h : Writes i s t) (hi : flagsWritten (encode i) = [.z, .n, .h]) (g : Flags)
    (hc : g.c = t.flags.c) : Writes i s (t.setFlags g) :=
  h.setFlags g fun q hq => by
    cases q with
    | c => exact hc
    | z | n | h => exact absurd (by rw [hi]; decide) hq

/-- All flags but zero may change, and zero is passed as it is. -/
theorem setFlags_nhc (h : Writes i s t) (hi : flagsWritten (encode i) = [.n, .h, .c]) (g : Flags)
    (hz : g.z = t.flags.z) : Writes i s (t.setFlags g) :=
  h.setFlags g fun q hq => by
    cases q with
    | z => exact hz
    | n | h | c => exact absurd (by rw [hi]; decide) hq

theorem setA (h : Writes i s t) (v : Byte) : Writes i s (t.setA v) := h.r8set .a v

/-! ## The shared operations as such writes -/

section
variable (hi : flagsWritten (encode i) = [.z, .n, .h, .c])
include hi

theorem aluAdd (x : Byte) : Writes i s (s.aluAdd x) := (none.setA _).setFlags_all hi _
theorem aluAdc (x : Byte) : Writes i s (s.aluAdc x) := (none.setA _).setFlags_all hi _
theorem aluSub (x : Byte) : Writes i s (s.aluSub x) := (none.setA _).setFlags_all hi _
theorem aluSbc (x : Byte) : Writes i s (s.aluSbc x) := (none.setA _).setFlags_all hi _
theorem aluAnd (x : Byte) : Writes i s (s.aluAnd x) := (none.setA _).setFlags_all hi _
theorem aluXor (x : Byte) : Writes i s (s.aluXor x) := (none.setA _).setFlags_all hi _
theorem aluOr (x : Byte) : Writes i s (s.aluOr x) := (none.setA _).setFlags_all hi _
theorem aluCp (x : Byte) : Writes i s (s.aluCp x) := none.setFlags_all hi _
theorem rotateA (op : Byte → Byte × Bool) : Writes i s (s.rotateA op) := (none.setA _).setFlags_all hi _
theorem rotateR8 (op : Byte → Byte × Bool) (r : R8) : Writes i s (s.rotateR8 op r) :=
  (none.r8set _ _).setFlags_all hi _
theorem loadHlSpPlus (e : Byte) : Writes i s (s.loadHlSpPlus e) := (none.setHl _).setFlags_all hi _
theorem addSp (hSp : writesSp i = true) (e : Byte) : Writes i s (s.addSp e) := (none.setSp hSp _).setFlags_all hi _

end

section
variable (hi : flagsWritten (encode i) = [.z, .n, .h])
include hi

theorem incR8 (r : R8) : Writes i s (s.incR8 r) :=
  (none.r8set _ _).setFlags_znh hi _ (by rw [State.r8set_flags]; rfl)
theorem decR8 (r : R8) : Writes i s (s.decR8 r) :=
  (none.r8set _ _).setFlags_znh hi _ (by rw [State.r8set_flags]; rfl)
theorem testBit (b : Fin 8) (r : R8) : Writes i s (s.testBit b r) := none.setFlags_znh hi _ rfl

end

section
variable (hi : flagsWritten (encode i) = [.n, .h, .c])
include hi

theorem addHl (v : Word) : Writes i s (s.addHl v) := (none.setHl _).setFlags_nhc hi _ rfl
theorem setCarryFlag : Writes i s s.setCarryFlag := none.setFlags_nhc hi _ rfl
theorem complementCarryFlag : Writes i s s.complementCarryFlag := none.setFlags_nhc hi _ rfl

end

/-- DAA keeps the subtraction flag (R194). -/
theorem decimalAdjust (s : State) : Writes .daa s s.decimalAdjust :=
  (none.setA _).setFlags _ fun q hq => by
    cases q with
    | n => simp [Flags.get, daaFlags]
    | z | h | c => exact absurd (by decide) hq

/-- CPL keeps zero and carry (R195). -/
theorem complementA (s : State) : Writes .cpl s s.complementA :=
  (none.setA _).setFlags _ fun q hq => by
    cases q with
    | z | c => simp [Flags.get]
    | n | h => exact absurd (by decide) hq

theorem copyR8 (dst src : R8) : Writes i s (s.copyR8 dst src) := none.r8set _ _
theorem clearBit (b : Fin 8) (r : R8) : Writes i s (s.clearBit b r) := none.r8set _ _
theorem assertBit (b : Fin 8) (r : R8) : Writes i s (s.assertBit b r) := none.r8set _ _
theorem loadA (a : Word) : Writes i s (s.loadA a) := none.setA _
theorem storeA (a : Word) : Writes i s (s.storeA a) := none.memWrite _ _
theorem memWrite16 (a v : Word) : Writes i s (s.memWrite16 a v) := (none.memWrite _ _).memWrite _ _

theorem pairSet (p : Pair) (hSp : writesSp i = decide (p = .sp)) (v : Word) : Writes i s (s.pairSet p v) := by
  cases p with
  | bc => exact none.setBc v
  | de => exact none.setDe v
  | hl => exact none.setHl v
  | sp => exact none.setSp hSp v

theorem push16 (hSp : writesSp i = true) (v : Word) : Writes i s (s.push16 v) :=
  (((none.setSp hSp _).memWrite _ _).setSp hSp _).memWrite _ _

theorem popPair (p : StackPair) (s : State) : Writes (popOp p) s (s.popPair p) := by
  have hPopped : Writes (popOp p) s s.popped := none.setSp (by cases p <;> rfl) _
  cases p with
  | bc => exact hPopped.setBc _
  | de => exact hPopped.setDe _
  | hl => exact hPopped.setHl _
  | af => exact hPopped.setAf rfl _

theorem haltIfEnabled (s : State) : Writes .halt s s.haltIfEnabled := by
  obtain ⟨hIme, e⟩ | ⟨-, e⟩ := haltIfEnabled_cases s <;> rw [e]
  · exact none.halted rfl hIme
  · exact none

section
variable (hPc : transfersControl i = true)
include hPc

theorem jumpRel (e : Byte) : Writes i s (s.jumpRel e) := none.setPc hPc _

theorem jumpRelIf (cc : Cond) (e : Byte) : Writes i s (s.jumpRelIf cc e) := by
  obtain ⟨-, h⟩ | ⟨-, h⟩ := jumpRelIf_cases s cc e <;> rw [h]
  · exact jumpRel hPc e
  · exact none

theorem jumpIf (cc : Cond) (a : Word) : Writes i s (s.jumpIf cc a) := by
  obtain ⟨-, h⟩ | ⟨-, h⟩ := jumpIf_cases s cc a <;> rw [h]
  · exact none.setPc hPc a
  · exact none

variable (hSp : writesSp i = true)
include hSp

theorem call (a : Word) : Writes i s (s.call a) := (push16 hSp _).setPc hPc _
theorem ret : Writes i s s.ret := (none.setSp hSp _).setPc hPc _

theorem callIf (cc : Cond) (a : Word) : Writes i s (s.callIf cc a) := by
  obtain ⟨-, h⟩ | ⟨-, h⟩ := callIf_cases s cc a <;> rw [h]
  · exact call hPc hSp a
  · exact none

theorem retIf (cc : Cond) : Writes i s (s.retIf cc) := by
  obtain ⟨-, h⟩ | ⟨-, h⟩ := retIf_cases s cc <;> rw [h]
  · exact ret hPc hSp
  · exact none

end

end Writes

/-! ## Every instruction -/

/-- A 0xCB term writes what its entry of the extension table writes (R276). -/
theorem execPrefixCb_writes {op2 : Byte} {s t : State} (h : execPrefixCb op2 s = .next t) :
    Writes (.prefixCb op2) s t := by
  unfold execPrefixCb at h
  dsimp only at h
  split at h
  case h_1 hBlock =>
    have hFlags : flagsWritten (encode (.prefixCb op2)) = [.z, .n, .h, .c] := by simp [flagsWritten, encode, hBlock]
    split at h <;> (cases h; exact .rotateR8 hFlags _ _)
  case h_2 hBlock => cases h; exact .testBit (by simp [flagsWritten, encode, hBlock]) _ _
  case h_3 => cases h; exact .clearBit _ _
  case h_4 => cases h; exact .assertBit _ _

open Writes in
/-- An instruction that answers a next state makes only the writes that the tables of 10_state.md allow it. -/
theorem exec_writes {i : Instr} {s t : State} (h : exec i s = .next t) : Writes i s t := by
  cases i
  case prefixCb => exact execPrefixCb_writes h
  all_goals cases h
  case nop => exact none
  case ldBD8 | ldCD8 | ldDD8 | ldED8 | ldHD8 | ldLD8 | ldIndHlD8 | ldAD8 => exact none.r8set _ _
  case ldIndHlIncA | ldIndHlDecA => exact (storeA _).setHl _
  case ldAIndHlInc | ldAIndHlDec => exact (loadA _).setHl _
  case ldSpHl => exact none.setSp rfl _
  case popBc => exact popPair .bc s
  case popDe => exact popPair .de s
  case popHl => exact popPair .hl s
  case popAf => exact popPair .af s
  case daa => exact decimalAdjust s
  case cpl => exact complementA s
  case jpA16 | jpHl => exact none.setPc rfl _
  case reti => exact (ret rfl rfl).setIme (by decide) _
  case ei | di => exact none.setIme (by decide) _
  case halt => exact haltIfEnabled s
  case stop => exact none.stopped rfl
  case rlcR8 r | rrcR8 r | rlR8 r | rrR8 r | slaR8 r | sraR8 r | swapR8 r | srlR8 r =>
    exact rotateR8 (by cases r <;> rfl) _ _
  case bitBR8 b r => exact testBit (by cases r <;> revert b <;> decide) _ _
  -- Each of the others is one shared operation; what its lemma asks of the tables is a closed fact.
  all_goals
    simp (disch := exact of_decide_eq_true rfl) only [copyR8, loadA, storeA, memWrite16, pairSet, push16,
      loadHlSpPlus, incR8, decR8, addHl, addSp, rotateA, setCarryFlag, complementCarryFlag, aluAdd, aluAdc, aluSub,
      aluSbc, aluAnd, aluXor, aluOr, aluCp, clearBit, assertBit, jumpRel, jumpRelIf, jumpIf, call, callIf, ret, retIf]

end Sys2Proof.Machine
end

section
/-! The invariant holds after power-on and is kept by every host operation and every step, so every run keeps it. -/

namespace Sys2Proof.Machine

variable {s t : State}

/-! ## Host operations -/

theorem Inv_hostReset (h : s.Inv) : s.hostReset.Inv := ⟨by rw [State.f, State.hostReset_af]; decide, h.2⟩

theorem Inv_loadFrom (h : s.Inv) (k : Nat) (bytes : List Byte) : (s.loadFrom k bytes).Inv := by
  induction bytes generalizing s k with
  | nil => exact h
  | cons b bs ih => exact ih (Inv_memWrite h _ b) (k + 1)

theorem Inv_memoryLost (h : s.Inv) : s.memoryLost.Inv := ⟨h.1, rfl⟩

theorem Inv_setReg8 (h : s.Inv) (r : Reg8) (v : Byte) : (s.setReg8 r v).Inv := by
  cases r with
  | f => exact ⟨by rw [State.setReg8, State.setF_f]; exact maskF_lowNibble v, h.2⟩
  | a => exact Inv_r8set h .a v
  | b | c | d | e | h | l => assumption

theorem Inv_setReg16 (h : s.Inv) (r : Reg16) (v : Word) : (s.setReg16 r v).Inv := by
  cases r with
  | af => exact Inv_setAf h v
  | bc | de | hl | sp | pc => exact h

theorem HostMove.inv (h : HostMove s t) (hs : s.Inv) : t.Inv := by
  cases h with
  | reset => exact Inv_hostReset hs
  | load _ bytes hLoad => rw [hostLoad_eq_loaded hLoad]; exact Inv_loadFrom hs 0 bytes
  | loadFailed _ bytes n hLoad => rw [hostLoad_eq_oversize hLoad]; exact Inv_memoryLost hs
  | writeReg8 r v => exact Inv_setReg8 hs r v
  | writeReg16 r v => exact Inv_setReg16 hs r v
  | writeByte a v => exact Inv_memWrite hs a v

/-! ## Steps and runs -/

theorem exec_inv {i : Instr} (h : exec i s = .next t) (hs : s.Inv) : t.Inv := (exec_writes h).inv hs

theorem step_inv (h : step s = .next t) (hs : s.Inv) : t.Inv := by
  by_cases hRun : s.run = .running
  · rw [step_of_running hRun] at h
    exact exec_inv h (Inv_setPc hs _)
  · rw [step_of_ended hRun] at h
    cases h
    exact hs

theorem powerOn_inv {af : Word} (h : af &&& 0x000F = 0) : (State.powerOn af).Inv := by
  have hLow : lo8 (af &&& 0x000F) = 0 := congrArg lo8 h
  rw [lo8, BitVec.extractLsb'_and] at hLow
  exact ⟨hLow, rfl⟩

/-- Settles O10: a step of a running core is an instruction on the state with `pc` moved on, and an instruction makes
only writes that keep the invariant. -/
theorem stepKeepsFlagNibbleAndMemoryForm : Obligations.StepKeepsFlagNibbleAndMemoryForm :=
  fun _ _ hs hStep => step_inv hStep hs

/-- Settles O12: memory lists nothing, and the low nibble of `F` is that of the parameter. -/
theorem powerOnMeetsInvariant : Obligations.PowerOnMeetsInvariant :=
  ⟨fun _ => powerOn_inv, powerOn_inv (by decide)⟩

/-- Settles O11, by induction on the run. -/
theorem reachableStatesKeepInvariant : Obligations.ReachableStatesKeepInvariant := by
  intro s hs
  induction hs with
  | powerOn af h => exact powerOn_inv h
  | step s t _ hStep ih => exact step_inv hStep ih
  | host s t _ hMove ih => exact hMove.inv ih

/-- Settles O13: the witness for `State.reset` is the default of log 1. -/
theorem powerOnValues : Obligations.PowerOnValues :=
  ⟨fun _ => ⟨rfl, rfl, rfl, rfl, rfl, rfl, rfl, rfl⟩, Config.afPowerOn, by decide, rfl⟩

end Sys2Proof.Machine
end

section
/-! Who writes `RUN`, the flags, `pc`, `sp` and the latch, and who reads the latch. -/

namespace Sys2Proof.Machine

/-- Settles O15: `RUN` is written by HALT with `IME` true and by STOP only. -/
theorem runStateWrittenOnlyByHaltAndStop : Obligations.RunStateWrittenOnlyByHaltAndStop :=
  fun _ _ _ hExec hRun => (exec_writes hExec).run_cases.resolve_left hRun

/-- Settles O17: every flag write passes the unlisted flags as they were, and only a write of `AF` as a word touches the
low nibble. -/
theorem onlyListedFlagsChange : Obligations.OnlyListedFlagsChange := by
  intro i s t hExec
  refine ⟨fun q hq => ?_, (exec_writes hExec).f_lowNibble_eq⟩
  rw [State.flag_eq_flags_get, State.flag_eq_flags_get]
  exact (exec_writes hExec).flags_get_eq hq

/-- Settles O18: `pc` and `sp` are written only where the tables of R28 and R20 allow it. -/
theorem pcAndSpWrittenOnlyByTheirInstructions : Obligations.PcAndSpWrittenOnlyByTheirInstructions :=
  fun _ _ _ hExec => ⟨(exec_writes hExec).pc_eq, (exec_writes hExec).sp_eq⟩

/-! ## The latch (R29) -/

/-- What EI, RETI and DI leave in `IME`, and every other instruction. -/
theorem exec_ime {i : Instr} {s t : State} (h : exec i s = .next t) :
    t.ime = if i = .ei ∨ i = .reti then true else if i = .di then false else s.ime := by
  by_cases hSet : i = .ei ∨ i = .reti
  · rw [if_pos hSet]
    obtain rfl | rfl := hSet <;> cases h <;> rfl
  · rw [if_neg hSet]
    by_cases hClear : i = .di
    · rw [if_pos hClear]
      subst hClear
      cases h
      rfl
    · rw [if_neg hClear]
      exact (exec_writes h).ime_eq (by tauto)

/-! A conditional transfer takes the same branch whatever `IME` is. -/

section
variable (s : State) (b : Bool) (cc : Cond)

theorem State.ite_setIme (c : Bool) (t u : State) :
    (if c then t.setIme b else u.setIme b) = (if c then t else u).setIme b := (apply_ite (State.setIme · b) ..).symm

theorem State.setIme_jumpRelIf (e : Byte) : (s.setIme b).jumpRelIf cc e = (s.jumpRelIf cc e).setIme b :=
  State.ite_setIme b (s.cond cc) (s.jumpRel e) s
theorem State.setIme_jumpIf (a : Word) : (s.setIme b).jumpIf cc a = (s.jumpIf cc a).setIme b :=
  State.ite_setIme b (s.cond cc) (s.setPc a) s
theorem State.setIme_callIf (a : Word) : (s.setIme b).callIf cc a = (s.callIf cc a).setIme b :=
  State.ite_setIme b (s.cond cc) (s.call a) s
theorem State.setIme_retIf : (s.setIme b).retIf cc = (s.retIf cc).setIme b :=
  State.ite_setIme b (s.cond cc) s.ret s
end

theorem eq_prefixCb_of_wf_eq_false {i : Instr} (h : i.wf = false) : ∃ op2, i = .prefixCb op2 := by
  unfold Instr.wf at h
  split at h
  · exact ⟨_, rfl⟩
  · cases h

/-- A 0xCB term is the entry of the extension table that its byte selects (R276). -/
theorem exec_prefixCb (op2 : Byte) (s : State) : exec (.prefixCb op2) s = exec (decodeExt op2) s := by
  show execPrefixCb op2 s = _
  unfold execPrefixCb decodeExt
  dsimp only
  generalize block op2 = blockOf, column op2 = columnOf
  fin_cases blockOf
  · fin_cases columnOf <;> rfl
  all_goals rfl

/-- From states that differ in `IME` alone, an instruction other than HALT answers states that differ in `IME` at most:
nothing it reads depends on the latch, so both runs are the same writes. -/
theorem exec_setIme_of_wf {i : Instr} {s t : State} (hWf : i.wf = true) (hHalt : i ≠ .halt) (b : Bool)
    (h : exec i s = .next t) : ∃ u, exec i (s.setIme b) = .next u ∧ u.setIme t.ime = t := by
  cases i
  case prefixCb => cases hWf
  case halt => exact absurd rfl hHalt
  all_goals cases h
  case jrNzE8 e | jrZE8 e | jrNcE8 e | jrCE8 e =>
    exact ⟨_, congrArg Host.Outcome.next (s.setIme_jumpRelIf b _ e), rfl⟩
  case jpNzA16 a | jpZA16 a | jpNcA16 a | jpCA16 a =>
    exact ⟨_, congrArg Host.Outcome.next (s.setIme_jumpIf b _ a), rfl⟩
  case callNzA16 a | callZA16 a | callNcA16 a | callCA16 a =>
    exact ⟨_, congrArg Host.Outcome.next (s.setIme_callIf b _ a), rfl⟩
  case retNz | retZ | retNc | retC => exact ⟨_, congrArg Host.Outcome.next (s.setIme_retIf b _), rfl⟩
  case rlcR8 r | rrcR8 r | rlR8 r | rrR8 r | slaR8 r | sraR8 r | swapR8 r | srlR8 r | resBR8 _ r | setBR8 _ r =>
    cases r <;> exact ⟨_, rfl, rfl⟩
  all_goals exact ⟨_, rfl, rfl⟩

theorem exec_setIme {i : Instr} {s t : State} (hHalt : i ≠ .halt) (b : Bool) (h : exec i s = .next t) :
    ∃ u, exec i (s.setIme b) = .next u ∧ u.setIme t.ime = t := by
  cases hWf : i.wf with
  | true => exact exec_setIme_of_wf hWf hHalt b h
  | false =>
    obtain ⟨op2, rfl⟩ := eq_prefixCb_of_wf_eq_false hWf
    obtain ⟨hEncode, hWfExt⟩ := encode_decodeExt op2
    rw [exec_prefixCb] at h ⊢
    exact exec_setIme_of_wf hWfExt (fun hExt => by rw [hExt] at hEncode; cases hEncode) b h

/-- Settles O14: only the latch writers write `IME`, and an instruction other than HALT commutes with a change of it. -/
theorem latchWrittenOnlyByDiEiReti : Obligations.LatchWrittenOnlyByDiEiReti :=
  ⟨fun _ _ _ => exec_ime, fun _ _ _ b hHalt => exec_setIme hHalt b, fun s b => s.setIme_memRead b,
    fun s a v => s.memWrite_ime a v, fun _ => rfl⟩

end Sys2Proof.Machine
end

section
/-! Registers by name (R21, R23, R37), the pairs as their aliases, and the condition table (R26). -/

namespace Sys2Proof.Machine

variable (s : State)

theorem State.reg8_setReg8_same (r : Reg8) (v : Byte) :
    (s.setReg8 r v).reg8 r = if r = .f then v &&& 0xF0 else v := by
  cases r <;> simp [State.reg8, State.setReg8]

theorem State.setReg8_frame (r : Reg8) (v : Byte) : Frame [r] [] s (s.setReg8 r v) := by
  cases r with
  | a => exact s.r8set_frame .a v
  | b => exact s.r8set_frame .b v
  | c => exact s.r8set_frame .c v
  | d => exact s.r8set_frame .d v
  | e => exact s.r8set_frame .e v
  | h => exact s.r8set_frame .h v
  | l => exact s.r8set_frame .l v
  | f => exact ⟨fun q hq => by cases q <;> simp_all [State.reg8, State.setReg8], fun _ _ => rfl, rfl, rfl⟩

theorem State.setReg8_sp (r : Reg8) (v : Byte) : (s.setReg8 r v).sp = s.sp := by cases r <;> rfl
theorem State.setReg8_pc (r : Reg8) (v : Byte) : (s.setReg8 r v).pc = s.pc := by cases r <;> rfl

theorem State.reg16_setReg16_same (r : Reg16) (v : Word) :
    (s.setReg16 r v).reg16 r = if r = .af then v &&& 0xFFF0 else v := by cases r <;> rfl

theorem State.reg16_setReg16_of_ne {r q : Reg16} (h : q ≠ r) (v : Word) : (s.setReg16 r v).reg16 q = s.reg16 q := by
  cases r <;> cases q <;> simp_all [State.reg16, State.setReg16]

theorem State.pairs_eq_join :
    s.af = join s.a s.f ∧ s.bc = join s.b s.c ∧ s.de = join s.d s.e ∧ s.hl = join s.h s.l :=
  ⟨(join_hi8_lo8 _).symm, (join_hi8_lo8 _).symm, (join_hi8_lo8 _).symm, (join_hi8_lo8 _).symm⟩

/-- Settles O19: each half of a pair is read and written apart, with the masks of R23. -/
theorem aliasReadsBackAndSparesItsHalf : Obligations.AliasReadsBackAndSparesItsHalf :=
  ⟨State.pairs_eq_join, fun _ => ⟨rfl, rfl, rfl, rfl, rfl, rfl, rfl, rfl⟩,
    fun s r v => ⟨s.reg8_setReg8_same r v, s.setReg8_frame r v, s.setReg8_sp r v, s.setReg8_pc r v⟩,
    fun s r v => ⟨s.reg16_setReg16_same r v, fun _ hq => s.reg16_setReg16_of_ne hq v⟩⟩

/-! ## Conditions (R26) -/

theorem State.cond_congr {s t : State} (h : t.flags = s.flags) (cc : Cond) : t.cond cc = s.cond cc := by
  have hZ : t.fZ = s.fZ := congrArg Flags.z h
  have hC : t.fC = s.fC := congrArg Flags.c h
  cases cc <;> simp [State.cond, hZ, hC]

/-- The index of the condition is bits 4:3 of the opcode in each of the four conditional forms. -/
theorem cond_index_of_opcode {cc : Cond} {e b : Byte} {a : Word}
    (h : (encode (jrOp cc e)).head? = some b ∨ (encode (jpOp cc a)).head? = some b ∨
      (encode (callOp cc a)).head? = some b ∨ (encode (retOp cc)).head? = some b) : b.toNat / 8 % 4 = cc.index := by
  obtain h | h | h | h := h <;> cases cc <;> cases h <;> rfl

/-- Settles O47: a condition reads the flags alone, and the four conditional forms carry its index. -/
theorem conditionTable : Obligations.ConditionTable :=
  ⟨fun _ => ⟨rfl, rfl, rfl, rfl⟩, ⟨rfl, rfl, rfl, rfl⟩, fun _ _ cc h => State.cond_congr h cc,
    fun _ _ _ _ => cond_index_of_opcode⟩

end Sys2Proof.Machine
end

section
/-! Memory as the host and the instructions leave it: the primitives (20_memory.md R51), `Load` (R61) and the bytes an
instruction does not store (R55, R64). -/

namespace Sys2Proof.Machine

variable (s : State)

/-! ## One write (R51) -/

theorem State.memWrite_reg16 (a : Word) (v : Byte) (r : Reg16) : (s.memWrite a v).reg16 r = s.reg16 r := by
  cases r <;> rfl

/-- Settles O20: the written address reads the byte, and a write changes nothing else. -/
theorem memoryReadsTheLastWrite : Obligations.MemoryReadsTheLastWrite :=
  fun s a v => ⟨s.memWrite_memRead_same a v, fun b => s.memWrite_memRead_other a b v, s.memWrite_reg16 a v,
    s.memWrite_ime a v, s.memWrite_run a v⟩

/-! ## A load of the host (R61) -/

theorem State.loadFrom_reg16 (k : Nat) (bytes : List Byte) (r : Reg16) :
    (s.loadFrom k bytes).reg16 r = s.reg16 r := by
  induction bytes generalizing s k with
  | nil => rfl
  | cons b bs ih => rw [State.loadFrom, ih, State.memWrite_reg16]

theorem State.loadFrom_ime (k : Nat) (bytes : List Byte) : (s.loadFrom k bytes).ime = s.ime := by
  induction bytes generalizing s k with
  | nil => rfl
  | cons b bs ih => rw [State.loadFrom, ih, State.memWrite_ime]

theorem State.memoryLost_reg16 (r : Reg16) : s.memoryLost.reg16 r = s.reg16 r := by cases r <;> rfl

theorem toNat_addressOf {k : Nat} (h : k < 65536) : (BitVec.ofNat 16 k).toNat = k := by
  rw [BitVec.toNat_ofNat, Nat.mod_eq_of_lt h]

/-- An image that ends inside the address space leaves the bytes before it and after it. -/
theorem State.loadFrom_memRead_outside {k : Nat} {bytes : List Byte} {a : Word} (hFits : k + bytes.length ≤ 65536)
    (ha : a.toNat < k ∨ k + bytes.length ≤ a.toNat) : (s.loadFrom k bytes).memRead a = s.memRead a := by
  induction bytes generalizing s k with
  | nil => rfl
  | cons b bs ih =>
    rw [List.length_cons] at hFits ha
    have hNe : a ≠ BitVec.ofNat 16 k := by
      rintro rfl
      rw [toNat_addressOf (by omega)] at ha
      omega
    rw [State.loadFrom, ih _ (by omega) (by omega), State.memWrite_memRead_other _ _ _ _ hNe]

/-- An image that ends inside the address space is read back: no later byte of it falls on an earlier one. -/
theorem State.loadFrom_memRead_inside {k j : Nat} {bytes : List Byte} {v : Byte}
    (hFits : k + bytes.length ≤ 65536) (hj : bytes[j]? = some v) :
    (s.loadFrom k bytes).memRead (BitVec.ofNat 16 (k + j)) = v := by
  induction bytes generalizing s k j with
  | nil => cases hj
  | cons b bs ih =>
    rw [List.length_cons] at hFits
    rw [State.loadFrom]
    cases j with
    | zero =>
      cases hj
      have hBefore : (BitVec.ofNat 16 (k + 0)).toNat < k + 1 := by rw [toNat_addressOf] <;> omega
      rw [State.loadFrom_memRead_outside _ (by omega) (.inl hBefore)]
      exact State.memWrite_memRead_same s _ _
    | succ j =>
      rw [show k + (j + 1) = k + 1 + j by omega]
      exact ih _ (by omega) hj

theorem hostLoad_of_fits {bytes : List Byte} (h : bytes.length ≤ 65536) :
    hostLoad bytes s = .loaded (s.loadFrom 0 bytes) := if_pos h

theorem hostLoad_of_oversize {bytes : List Byte} (h : 65536 < bytes.length) :
    hostLoad bytes s = .oversize bytes.length s.memoryLost := if_neg (Nat.not_le.mpr h)

/-- Settles O60: an image that fits is copied from address 0, by induction on it, and a longer one costs memory only. -/
theorem hostLoadCopiesOrReportsOversize : Obligations.HostLoadCopiesOrReportsOversize := by
  refine fun bytes s => ⟨fun hFits => ?_, fun hOver => ?_⟩
  · have hFrom0 : 0 + bytes.length ≤ 65536 := by omega
    refine ⟨_, hostLoad_of_fits s hFits, fun k v hk => ?_, fun a ha => ?_, s.loadFrom_reg16 0 bytes,
      s.loadFrom_ime 0 bytes, s.loadFrom_run 0 bytes⟩
    · simpa only [Nat.zero_add] using s.loadFrom_memRead_inside hFrom0 hk
    · exact s.loadFrom_memRead_outside hFrom0 (.inr (by omega))
  · exact ⟨_, hostLoad_of_oversize s hOver, s.memoryLost_reg16, rfl, s.memoryLost_run⟩

/-! ## What the storing operations leave -/

/-- From `s` to `t` no byte changes but those at the addresses in `stored`: the memory part of `Frame`. -/
def SameOutside (stored : List Word) (s t : State) : Prop := ∀ a, a ∉ stored → t.memRead a = s.memRead a

theorem sameOutside_of_frame {regs : List Reg8} {stored : List Word} {s t : State} (h : Frame regs stored s t) :
    SameOutside stored s t := h.mem

theorem r8set_sameOutside (r : R8) (v : Byte) : SameOutside (r.stored s) s (s.r8set r v) :=
  sameOutside_of_frame (s.r8set_frame r v)

theorem incR8_sameOutside (r : R8) : SameOutside (r.stored s) s (s.incR8 r) :=
  sameOutside_of_frame (incR8_effect s r).2.frame

theorem decR8_sameOutside (r : R8) : SameOutside (r.stored s) s (s.decR8 r) :=
  sameOutside_of_frame (decR8_effect s r).2.frame

theorem rotateR8_sameOutside (op : Byte → Byte × Bool) (r : R8) : SameOutside (r.stored s) s (s.rotateR8 op r) :=
  sameOutside_of_frame (rotateR8_effect s op r).2.frame

theorem storeA_sameOutside (x : Word) : SameOutside [x] s (s.storeA x) :=
  fun a ha => s.memWrite_memRead_other x a _ (List.ne_of_not_mem_cons ha)

theorem memWrite16_sameOutside (x v : Word) : SameOutside [x, x + 1] s (s.memWrite16 x v) := by
  intro a ha
  obtain ⟨hLow, hHigh⟩ : a ≠ x ∧ a ≠ x + 1 := by simpa using ha
  rw [State.memWrite16_memRead, if_neg hHigh, if_neg hLow]

theorem push16_sameOutside (v : Word) : SameOutside [s.sp - 1, s.sp - 2] s (s.push16 v) := by
  obtain ⟨-, -, -, hFrame, -⟩ := push16_effect s v
  exact sameOutside_of_frame hFrame

theorem call_sameOutside (x : Word) : SameOutside [s.sp - 1, s.sp - 2] s (s.call x) := by
  obtain ⟨-, -, -, -, hFrame⟩ := call_effect s x
  exact sameOutside_of_frame hFrame

/-- A conditional call stores the return address only when it is taken. -/
theorem callIf_sameOutside (cc : Cond) (x : Word) :
    SameOutside (if s.cond cc then [s.sp - 1, s.sp - 2] else []) s (s.callIf cc x) := by
  obtain ⟨hCond, e⟩ | ⟨-, e⟩ := callIf_cases s cc x <;> rw [e]
  · rw [if_pos hCond]
    exact call_sameOutside s x
  · exact fun _ _ => rfl

/-! ## What the conditional operations without a store leave -/

section
variable (stored : List Word) (cc : Cond)

theorem jumpRelIf_sameOutside (e : Byte) : SameOutside stored s (s.jumpRelIf cc e) := by
  obtain ⟨-, h⟩ | ⟨-, h⟩ := jumpRelIf_cases s cc e <;> rw [h] <;> exact fun _ _ => rfl

theorem jumpIf_sameOutside (x : Word) : SameOutside stored s (s.jumpIf cc x) := by
  obtain ⟨-, h⟩ | ⟨-, h⟩ := jumpIf_cases s cc x <;> rw [h] <;> exact fun _ _ => rfl

theorem retIf_sameOutside : SameOutside stored s (s.retIf cc) := by
  obtain ⟨-, h⟩ | ⟨-, h⟩ := retIf_cases s cc <;> rw [h] <;> exact fun _ _ => rfl

theorem haltIfEnabled_sameOutside : SameOutside stored s s.haltIfEnabled := by
  obtain ⟨-, h⟩ | ⟨-, h⟩ := haltIfEnabled_cases s <;> rw [h] <;> exact fun _ _ => rfl

end

/-! ## Every instruction (R55, R64) -/

/-- A 0xCB term stores where the entry of the extension table that its byte selects stores. -/
theorem storedBy_prefixCb (op2 : Byte) : storedBy (.prefixCb op2) s = storedBy (decodeExt op2) s := by
  unfold storedBy decodeExt
  dsimp only
  generalize block op2 = blockOf, column op2 = columnOf
  fin_cases blockOf
  · fin_cases columnOf <;> rfl
  all_goals rfl

theorem exec_sameOutside_of_wf {i : Instr} {s t : State} (hWf : i.wf = true) (h : exec i s = .next t) :
    SameOutside (storedBy i s) s t := by
  cases i
  case prefixCb => cases hWf
  all_goals cases h
  case ldIndHlB | ldIndHlC | ldIndHlD | ldIndHlE | ldIndHlH | ldIndHlL | ldIndHlA | ldIndHlD8 =>
    exact r8set_sameOutside s .indHl _
  case incIndHl => exact incR8_sameOutside s .indHl
  case decIndHl => exact decR8_sameOutside s .indHl
  case ldIndBcA | ldIndDeA | ldIndHlIncA | ldIndHlDecA | ldhIndA8A | ldIndCA | ldIndA16A =>
    exact storeA_sameOutside s _
  case ldIndA16Sp a => exact memWrite16_sameOutside s a s.sp
  case pushBc | pushDe | pushHl | pushAf => exact push16_sameOutside s _
  case callA16 | rst00 | rst08 | rst10 | rst18 | rst20 | rst28 | rst30 | rst38 => exact call_sameOutside s _
  case callNzA16 | callZA16 | callNcA16 | callCA16 => exact callIf_sameOutside s _ _
  case rlcR8 r | rrcR8 r | rlR8 r | rrR8 r | slaR8 r | sraR8 r | swapR8 r | srlR8 r =>
    exact rotateR8_sameOutside s _ r
  case resBR8 r | setBR8 r => exact r8set_sameOutside s r _
  case jrNzE8 e | jrZE8 e | jrNcE8 e | jrCE8 e => exact jumpRelIf_sameOutside s _ _ e
  case jpNzA16 a | jpZA16 a | jpNcA16 a | jpCA16 a => exact jumpIf_sameOutside s _ _ a
  case retNz | retZ | retNc | retC => exact retIf_sameOutside s _ _
  case halt => exact haltIfEnabled_sameOutside s _
  -- Each of the others writes registers, flags, `IME` or `RUN` only, and a read of memory looks at none of them.
  all_goals exact fun _ _ => rfl

theorem exec_sameOutside {i : Instr} {s t : State} (h : exec i s = .next t) : SameOutside (storedBy i s) s t := by
  cases hWf : i.wf with
  | true => exact exec_sameOutside_of_wf hWf h
  | false =>
    obtain ⟨op2, rfl⟩ := eq_prefixCb_of_wf_eq_false hWf
    rw [exec_prefixCb] at h
    rw [storedBy_prefixCb]
    exact exec_sameOutside_of_wf (encode_decodeExt op2).2 h

/-- Settles O16: every store of an instruction is at an address that R55 lists for it. -/
theorem onlyStoredBytesChange : Obligations.OnlyStoredBytesChange := fun _ _ _ => exec_sameOutside

end Sys2Proof.Machine
end

section
/-! The decoder and the encoder undo one another (30_encoding.md sections 1, 2, 4, 5), and a step runs what is decoded at
`pc` (R83). -/

namespace Sys2Proof.Machine

/-! ## What the decoder answers on a list of bytes (R84, R85) -/

section
variable {b : Byte} {bs : List Byte}

theorem decode_cons_eq_ok_iff {rest : List Byte} {i : Instr} :
    decode (b :: bs) = .ok i rest ↔ instrLength b ≤ (b :: bs).length ∧
      decodeAt (fun k => (b :: bs).getD k 0) = i ∧ (b :: bs).drop (instrLength b) = rest := by
  rw [decode]
  split
  case isTrue hShort => exact ⟨nofun, fun ⟨hLe, _⟩ => absurd hLe (Nat.not_le.2 hShort)⟩
  case isFalse hLong =>
    rw [DecodeResult.ok.injEq]
    exact (and_iff_right (Nat.not_lt.1 hLong)).symm

theorem decode_cons_rejected_iff : (∃ why, decode (b :: bs) = .rejected why) ↔ (b :: bs).length < instrLength b := by
  rw [decode]
  split
  case isTrue hShort => exact ⟨fun _ => hShort, fun _ => ⟨_, rfl⟩⟩
  case isFalse hLong => exact ⟨nofun, fun hShort => absurd hShort hLong⟩

end

/-! ## The decoder by the cell of the first byte (R80, R91) -/

section
variable {b : Byte} (rest : List Byte)

theorem decode_of_op {i : Instr} (h : baseEntry b = .op i) : decode (b :: rest) = .ok i rest := by
  obtain ⟨-, -, hLength⟩ : (Entry.op i).FitsByte b := h ▸ baseEntry_fits b
  exact decode_cons_eq_ok_iff.2 ⟨by simp [hLength], by simp [decodeAt, h], by simp [hLength]⟩

theorem decode_of_imm8 {f : Byte → Instr} (h : baseEntry b = .imm8 f) (n : Byte) :
    decode (b :: n :: rest) = .ok (f n) rest := by
  have hFits : (Entry.imm8 f).FitsByte b := h ▸ baseEntry_fits b
  obtain ⟨-, -, hLength⟩ := hFits n
  exact decode_cons_eq_ok_iff.2 ⟨by simp [hLength], by simp [decodeAt, h], by simp [hLength]⟩

theorem decode_of_imm16 {f : Word → Instr} (h : baseEntry b = .imm16 f) (w : Word) :
    decode (b :: lo8 w :: hi8 w :: rest) = .ok (f w) rest := by
  have hFits : (Entry.imm16 f).FitsByte b := h ▸ baseEntry_fits b
  obtain ⟨-, -, hLength⟩ := hFits w
  exact decode_cons_eq_ok_iff.2 ⟨by simp [hLength], by simp [decodeAt, h], by simp [hLength]⟩

end

/-! ## Decoding an encoding -/

theorem decode_encode {i : Instr} (hWf : i.wf = true) (rest : List Byte) : decode (encode i ++ rest) = .ok i rest := by
  cases i
  case prefixCb => cases hWf
  case ldBD8 n | ldCD8 n | ldDD8 n | ldED8 n | ldHD8 n | ldLD8 n | ldIndHlD8 n | ldAD8 n | jrE8 n | jrNzE8 n |
      jrZE8 n | jrNcE8 n | jrCE8 n | addAD8 n | adcAD8 n | subD8 n | sbcAD8 n | andD8 n | xorD8 n | orD8 n | cpD8 n |
      ldhIndA8A n | ldhAIndA8 n | addSpE8 n | ldHlSpE8 n =>
    exact decode_of_imm8 rest rfl n
  case ldBcD16 w | ldDeD16 w | ldHlD16 w | ldSpD16 w | ldIndA16Sp w | ldIndA16A w | ldAIndA16 w | jpA16 w |
      jpNzA16 w | jpZA16 w | jpNcA16 w | jpCA16 w | callA16 w | callNzA16 w | callZA16 w | callNcA16 w | callCA16 w =>
    exact decode_of_imm16 rest rfl w
  -- The extension table: the fields of `opcode2` are read back as they were encoded (R92).
  case rlcR8 r | rrcR8 r | rlR8 r | rrR8 r | slaR8 r | sraR8 r | swapR8 r | srlR8 r =>
    obtain ⟨hRlc, hRrc, hRl, hRr, hSla, hSra, hSwap, hSrl⟩ := decodeExt_rotates r
    refine (decode_cb _ rest).trans (congrArg (DecodeResult.ok · rest) ?_)
    assumption
  case bitBR8 k r | resBR8 k r | setBR8 k r =>
    obtain ⟨hBit, hRes, hSet⟩ := decodeExt_bitForms k r
    refine (decode_cb _ rest).trans (congrArg (DecodeResult.ok · rest) ?_)
    assumption
  all_goals exact decode_of_op rest rfl

/-- Settles O2, by the format of each instruction: no immediate, one byte, two bytes, or an extension entry. -/
theorem decodeOfEncodeIsTheInstruction : Obligations.DecodeOfEncodeIsTheInstruction :=
  fun _ rest hWf => decode_encode hWf rest

theorem encodedAs_of_wf {i : Instr} {bytes : List Byte} (hWf : i.wf = true) (h : encode i = bytes) :
    EncodedAs i bytes :=
  ⟨h, by simpa [h] using decode_encode hWf []⟩

/-! ## Encoding what was decoded -/

theorem wf_and_eq_encode_append_of_decode {bytes rest : List Byte} {i : Instr} (h : decode bytes = .ok i rest) :
    i.wf = true ∧ bytes = encode i ++ rest := by
  cases bytes with
  | nil => cases h
  | cons b bs =>
    obtain ⟨hLength, -, -⟩ := decode_cons_eq_ok_iff.1 h
    have hFits := baseEntry_fits b
    cases hCell : baseEntry b with
    | op j =>
      rw [hCell] at hFits
      obtain ⟨hWf, hEncode, -⟩ := hFits
      cases (decode_of_op bs hCell).symm.trans h
      exact ⟨hWf, by rw [hEncode]; rfl⟩
    | imm8 f =>
      rw [hCell] at hFits
      match bs with
      | [] => simp [(hFits 0).2.2] at hLength
      | n :: bs =>
        obtain ⟨hWf, hEncode, -⟩ := hFits n
        cases (decode_of_imm8 bs hCell n).symm.trans h
        exact ⟨hWf, by rw [hEncode]; rfl⟩
    | imm16 f =>
      rw [hCell] at hFits
      match bs with
      | [] | [_] => simp [(hFits 0).2.2] at hLength
      | lo :: hi :: bs =>
        obtain ⟨hWf, hEncode, -⟩ := hFits (join hi lo)
        have hDecode := decode_of_imm16 bs hCell (join hi lo)
        rw [lo8_join, hi8_join] at hEncode hDecode
        cases hDecode.symm.trans h
        exact ⟨hWf, by rw [hEncode]; rfl⟩
    | pfx =>
      rw [hCell] at hFits
      obtain ⟨rfl, -⟩ := hFits
      match bs with
      | [] => cases h
      | op2 :: bs =>
        obtain ⟨hEncode, hWf⟩ := encode_decodeExt op2
        cases (decode_cb op2 bs).symm.trans h
        exact ⟨hWf, by rw [hEncode]; rfl⟩

/-- Settles O3, by the cell of the first byte: it fits that byte, so what it makes of the bytes is encoded as them. -/
theorem encodeOfDecodeIsTheBytes : Obligations.EncodeOfDecodeIsTheBytes :=
  fun _ _ _ => wf_and_eq_encode_append_of_decode

/-! ## Lengths (R80, R85) -/

/-- The bytes that the decoder took for `i` are those of `encode i`, and it took as many as the first byte asks for. -/
theorem encode_length_of_decode {b : Byte} {bs rest : List Byte} {i : Instr} (h : decode (b :: bs) = .ok i rest) :
    (encode i).length = instrLength b := by
  obtain ⟨hLe, -, hDrop⟩ := decode_cons_eq_ok_iff.1 h
  have hBytes := congrArg List.length (wf_and_eq_encode_append_of_decode h).2
  have hRest := congrArg List.length hDrop
  rw [List.length_append] at hBytes
  rw [List.length_drop] at hRest
  omega

/-- A 0xCB term has the bytes of the entry of the extension table that it names (R82). -/
theorem encode_prefixCb (op2 : Byte) : encode (.prefixCb op2) = encode (decodeExt op2) :=
  (encode_decodeExt op2).1.symm

theorem encode_length {i : Instr} {b : Byte} {bs : List Byte} (h : encode i = b :: bs) :
    (encode i).length = instrLength b := by
  cases hWf : i.wf with
  | true => exact encode_length_of_decode (encodedAs_of_wf hWf h).2
  | false =>
    obtain ⟨op2, rfl⟩ := eq_prefixCb_of_wf_eq_false hWf
    rw [encode_prefixCb] at h ⊢
    exact encode_length_of_decode (encodedAs_of_wf (encode_decodeExt op2).2 h).2

theorem decode_rejected_iff (bytes : List Byte) :
    (∃ why, decode bytes = .rejected why) ↔
      (bytes = [] ∨ ∃ b bs, bytes = b :: bs ∧ bytes.length < instrLength b) := by
  cases bytes with
  | nil => simp [decode]
  | cons b bs => simp [decode_cons_rejected_iff]

/-- Settles O4: an encoding decodes, and the decoder takes as many bytes as the first one asks for. -/
theorem firstByteDecidesLength : Obligations.FirstByteDecidesLength :=
  ⟨fun _ b _ h => ⟨encode_length h, instrLength_bounds b⟩, decode_rejected_iff⟩

/-! ## The 0xCB term (R82, R276), fixed words, the step (R83) -/

/-- Settles O58: the decoder and the meaning of the 0xCB term both give the entry of the second byte. -/
theorem prefixRunsTheExtensionEntry : Obligations.PrefixRunsTheExtensionEntry :=
  fun op2 s => ⟨rfl, (encode_decodeExt op2).1, decode_cb op2 [], exec_prefixCb op2 s, execPrefixCb_next op2 s⟩

/-- Settles O1: each word is the encoding of its instruction, so it decodes to it. -/
theorem writtenOutWordsDecode : Obligations.WrittenOutWordsDecode := by
  unfold Obligations.WrittenOutWordsDecode
  and_intros
  all_goals exact (encodedAs_of_wf (by rfl) (by rfl)).2

/-- What the fetch reads at `pc` is encoded in as many bytes as the step moves `pc` (R28). -/
theorem State.encode_instrAt_length (s : State) : (encode (s.instrAt s.pc)).length = s.fetchLength :=
  encode_length_of_decode (State.readRange_three s s.pc ▸ s.decode_at_pc)

/-- Settles O5: the fetch gives what the decoder gives on the bytes at `pc`, and `pc` moves by its length. -/
theorem stepRunsDecodedInstruction : Obligations.StepRunsDecodedInstruction := by
  intro s i rest hRun hDecode
  obtain ⟨rfl, -⟩ := DecodeResult.ok.inj (s.decode_at_pc.symm.trans hDecode)
  rw [step_of_running hRun, State.encode_instrAt_length]
  rfl

end Sys2Proof.Machine
end

section
/-! The 8-bit loads (40_load8.md R120 to R139): each is encoded as its rule says, runs, and is one write of an operand
or of a byte, for the post-increment forms followed by one of `hl`. -/

namespace Sys2Proof.Machine

variable (s : State)

/-! ## What the writes of a load leave -/

/-- An 8-bit operand written, `(HL)` included (R24). -/
theorem r8set_effect (r : R8) (v : Byte) : (s.r8set r v).r8get r = v ∧
    Frame r.alias8 (r.stored s) s (s.r8set r v) ∧ (s.r8set r v).sp = s.sp ∧ (s.r8set r v).pc = s.pc :=
  ⟨s.r8set_r8get r v, s.r8set_frame r v, s.r8set_sp r v, s.r8set_pc r v⟩

/-- A register of the operand table is no byte of memory. -/
theorem stored_of_ne_indHl {r : R8} (h : r ≠ .indHl) : r.stored s = [] := by
  cases r with
  | indHl => exact absurd rfl h
  | b | c | d | e | h | l | a => rfl

/-- A register of the operand table written: no byte of memory changes. -/
theorem r8set_register_effect {r : R8} (h : r ≠ .indHl) (v : Byte) : (s.r8set r v).r8get r = v ∧
    Frame r.alias8 [] s (s.r8set r v) ∧ (s.r8set r v).sp = s.sp ∧ (s.r8set r v).pc = s.pc :=
  stored_of_ne_indHl s h ▸ r8set_effect s r v

theorem memWrite_frame (x : Word) (v : Byte) : Frame [] [x] s (s.memWrite x v) where
  regs q _ := by cases q <;> rfl
  mem y hy := s.memWrite_memRead_other x y v (List.ne_of_not_mem_cons hy)
  ime := rfl
  run := rfl

theorem loadA_effect (x : Word) : (s.loadA x).a = s.memRead x ∧
    Frame [.a] [] s (s.loadA x) ∧ (s.loadA x).sp = s.sp ∧ (s.loadA x).pc = s.pc :=
  r8set_effect s .a _

theorem storeA_effect (x : Word) : (s.storeA x).memRead x = s.a ∧
    Frame [] [x] s (s.storeA x) ∧ (s.storeA x).sp = s.sp ∧ (s.storeA x).pc = s.pc :=
  ⟨s.memWrite_memRead_same x s.a, memWrite_frame s x s.a, rfl, rfl⟩

theorem setHl_frame (v : Word) : Frame [.h, .l] [] s (s.setHl v) := by
  obtain ⟨-, hFrame, -⟩ := pairSet_effect s .hl v
  exact hFrame

/-- A load of `A`, then a write of `hl` (R132, R133). -/
theorem loadA_setHl_effect (x v : Word) : ((s.loadA x).setHl v).a = s.memRead x ∧ ((s.loadA x).setHl v).hl = v ∧
    Frame [.a, .h, .l] [] s ((s.loadA x).setHl v) ∧
    ((s.loadA x).setHl v).sp = s.sp ∧ ((s.loadA x).setHl v).pc = s.pc := by
  obtain ⟨hA, hFrame, hSp, hPc⟩ := loadA_effect s x
  exact ⟨hA, rfl, hFrame.trans (setHl_frame _ v), hSp, hPc⟩

/-- A store of `A`, then a write of `hl` (R130, R131). -/
theorem storeA_setHl_effect (x v : Word) : ((s.storeA x).setHl v).memRead x = s.a ∧
    ((s.storeA x).setHl v).hl = v ∧ Frame [.h, .l] [x] s ((s.storeA x).setHl v) ∧
    ((s.storeA x).setHl v).sp = s.sp ∧ ((s.storeA x).setHl v).pc = s.pc := by
  obtain ⟨hByte, hFrame, hSp, hPc⟩ := storeA_effect s x
  exact ⟨hByte, rfl, hFrame.trans (setHl_frame _ v), hSp, hPc⟩

/-! ## The two tables of LD (R121 to R125) -/

/-- `0b01 ddd sss`, also for `ddd = sss = 6`, which is HALT. -/
theorem encodedAs_ldOp (dst src : R8) :
    EncodedAs (ldOp dst src) [BitVec.ofNat 8 (0x40 + 8 * dst.index + src.index)] := by
  cases dst <;> cases src <;> exact encodedAs_of_wf rfl rfl

/-- Every cell of the table copies its source but `(HL),(HL)`, which is HALT (R272). -/
theorem exec_ldOp {dst src : R8} (h : dst = .indHl → src ≠ .indHl) :
    exec (ldOp dst src) s = .next (s.copyR8 dst src) := by
  cases dst with
  | indHl =>
    cases src with
    | indHl => exact absurd rfl (h rfl)
    | b | c | d | e | h | l | a => rfl
  | b | c | d | e | h | l | a => cases src <;> rfl

/-- `0b00 ddd 110`, then the immediate. -/
theorem encodedAs_ldImmOp (dst : R8) (n : Byte) :
    EncodedAs (ldImmOp dst n) [BitVec.ofNat 8 (0x06 + 8 * dst.index), n] := by
  cases dst <;> exact encodedAs_of_wf rfl rfl

theorem exec_ldImmOp (dst : R8) (n : Byte) : exec (ldImmOp dst n) s = .next (s.r8set dst n) := by
  cases dst <;> rfl

/-- Settles O21: a cell of the table without `(HL)` copies a register to a register. -/
theorem loadRegisterFromRegister : Obligations.LoadRegisterFromRegister :=
  fun dst src s hDst _ => ⟨encodedAs_ldOp dst src, _, exec_ldOp s (absurd · hDst), r8set_register_effect s hDst _⟩

/-- Settles O22: the operand, `(HL)` included, is written with the immediate. -/
theorem loadRegisterFromImmediate : Obligations.LoadRegisterFromImmediate :=
  fun dst n s => ⟨encodedAs_ldImmOp dst n, _, exec_ldImmOp s dst n, r8set_effect s dst n⟩

/-- Settles O23: the row of the table with source `(HL)` and its column with destination `(HL)`; the source is read
before the destination is written. -/
theorem loadAndStoreThroughHl : Obligations.LoadAndStoreThroughHl := by
  refine ⟨fun dst s hDst => ⟨?_, _, exec_ldOp s (absurd · hDst), r8set_register_effect s hDst _⟩,
    fun src s hSrc => ⟨encodedAs_ldOp .indHl src, _, exec_ldOp s fun _ => hSrc, r8set_effect s .indHl _⟩⟩
  have hOpcode : 0x46 + 8 * dst.index = 0x40 + 8 * dst.index + R8.indHl.index := Nat.add_right_comm 0x40 6 _
  rw [hOpcode]
  exact encodedAs_ldOp dst .indHl

/-! ## `A` and memory (R126 to R139) -/

/-- Settles O24: the four load `A` from `bc`, `de` or the old `hl`, and the last two then write `hl`. -/
theorem accumulatorLoadsThroughPairs : Obligations.AccumulatorLoadsThroughPairs :=
  fun s =>
    ⟨⟨encodedAs_of_wf rfl rfl, _, rfl, loadA_effect s s.bc⟩,
      ⟨encodedAs_of_wf rfl rfl, _, rfl, loadA_effect s s.de⟩,
      ⟨encodedAs_of_wf rfl rfl, _, rfl, loadA_setHl_effect s s.hl (s.hl + 1)⟩,
      ⟨encodedAs_of_wf rfl rfl, _, rfl, loadA_setHl_effect s s.hl (s.hl - 1)⟩⟩

/-- Settles O25: the four store `A` at `bc`, `de` or the old `hl`, and the last two then write `hl`. -/
theorem accumulatorStoresThroughPairs : Obligations.AccumulatorStoresThroughPairs :=
  fun s =>
    ⟨⟨encodedAs_of_wf rfl rfl, _, rfl, storeA_effect s s.bc⟩,
      ⟨encodedAs_of_wf rfl rfl, _, rfl, storeA_effect s s.de⟩,
      ⟨encodedAs_of_wf rfl rfl, _, rfl, storeA_setHl_effect s s.hl (s.hl + 1)⟩,
      ⟨encodedAs_of_wf rfl rfl, _, rfl, storeA_setHl_effect s s.hl (s.hl - 1)⟩⟩

/-- The offset is unsigned and the sum does not wrap: 0x80 is the address 0xFF80 (R134). -/
theorem highPage_toNat (n : Byte) : (highPage n).toNat = 0xFF00 + n.toNat := by
  unfold highPage zext16
  bv_omega

/-- Settles O26: the four move `A` to or from the high page, with the immediate or `C` as its offset. -/
theorem highPageLoadsAndStores : Obligations.HighPageLoadsAndStores :=
  ⟨highPage_toNat, fun n s =>
    ⟨⟨encodedAs_of_wf rfl rfl, _, rfl, storeA_effect s (highPage n)⟩,
      ⟨encodedAs_of_wf rfl rfl, _, rfl, loadA_effect s (highPage n)⟩,
      ⟨encodedAs_of_wf rfl rfl, _, rfl, storeA_effect s (highPage s.c)⟩,
      ⟨encodedAs_of_wf rfl rfl, _, rfl, loadA_effect s (highPage s.c)⟩⟩⟩

/-- Settles O27: the two move `A` to or from the address the instruction carries, its low byte first. -/
theorem absoluteLoadAndStore : Obligations.AbsoluteLoadAndStore :=
  fun x s =>
    ⟨⟨encodedAs_of_wf rfl rfl, _, rfl, storeA_effect s x⟩, ⟨encodedAs_of_wf rfl rfl, _, rfl, loadA_effect s x⟩⟩

end Sys2Proof.Machine
end

section
/-! The 16-bit loads and the stack (41_load16_stack.md R150 to R157) and ADD SP,e8 (42_incdec_add16.md R175): each is
encoded as its rule says, runs, and is one shared operation. -/

namespace Sys2Proof.Machine

variable (s : State)

/-! ## The tables of PUSH, POP and LD rr,d16 (R152, R153, R154) -/

/-- `0b11 pp0 101`. -/
theorem encodedAs_pushOp (p : StackPair) : EncodedAs (pushOp p) [BitVec.ofNat 8 (0xC5 + 16 * p.index)] := by
  cases p <;> exact encodedAs_of_wf rfl rfl

theorem exec_pushOp (p : StackPair) : exec (pushOp p) s = .next (s.push16 (s.stackPairGet p)) := by
  cases p <;> rfl

/-- `0b11 pp0 001`. -/
theorem encodedAs_popOp (p : StackPair) : EncodedAs (popOp p) [BitVec.ofNat 8 (0xC1 + 16 * p.index)] := by
  cases p <;> exact encodedAs_of_wf rfl rfl

theorem exec_popOp (p : StackPair) : exec (popOp p) s = .next (s.popPair p) := by
  cases p <;> rfl

/-- `0b00 pp0 001`, then the immediate word, its low byte first. -/
theorem encodedAs_ldPairOp (p : Pair) (d : Word) :
    EncodedAs (ldPairOp p d) [BitVec.ofNat 8 (0x01 + 16 * p.index), lo8 d, hi8 d] := by
  cases p <;> exact encodedAs_of_wf rfl rfl

theorem exec_ldPairOp (p : Pair) (d : Word) : exec (ldPairOp p d) s = .next (s.pairSet p d) := by
  cases p <;> rfl

/-- Settles O31: the pair, `sp` included, is written with the immediate word. -/
theorem loadPairFromImmediate : Obligations.LoadPairFromImmediate :=
  fun p d s => ⟨encodedAs_ldPairOp p d, _, exec_ldPairOp s p d, pairSet_effect s p d⟩

/-! ## PUSH and POP (R150 to R153) -/

/-- Settles O28: the pair is pushed, its high byte at the higher address. -/
theorem pushStoresHighByteFirst : Obligations.PushStoresHighByteFirst :=
  fun p s => ⟨encodedAs_pushOp p, _, exec_pushOp s p, push16_effect s _⟩

/-- `AF` written as a word: the flags are bits 7 to 4 of its low byte, which the mask of R23 keeps. -/
theorem State.setAf_flags (v : Word) : (s.setAf v).flags =
    { z := (lo8 v).getLsbD 7, n := (lo8 v).getLsbD 6, h := (lo8 v).getLsbD 5, c := (lo8 v).getLsbD 4 } := by
  simp [State.flags, State.fZ, State.fN, State.fH, State.fC]

/-- The low byte of the popped word is the byte at `sp`. -/
theorem State.lo8_popValue : lo8 s.popValue = s.memRead s.sp := lo8_join _ _

theorem popPair_af_flags : (s.popPair .af).flags =
    { z := (s.memRead s.sp).getLsbD 7, n := (s.memRead s.sp).getLsbD 6,
      h := (s.memRead s.sp).getLsbD 5, c := (s.memRead s.sp).getLsbD 4 } := by
  rw [← s.lo8_popValue]
  exact s.popped.setAf_flags s.popValue

/-- Settles O29: the pair is the popped word, and for AF the mask drops no flag. -/
theorem popLoadsThePairAndMasksF : Obligations.PopLoadsThePairAndMasksF := by
  intro p s
  obtain ⟨hPair, hFrame, hSp, hPc⟩ := popPair_effect s p
  have hTwo : s.sp + 1 + 1 = s.sp + 2 := BitVec.add_assoc ..
  exact ⟨encodedAs_popOp p, _, exec_popOp s p, hPair, fun hAf => hAf ▸ popPair_af_flags s, hSp.trans hTwo, hFrame,
    hPc⟩

/-! ## POP undoes PUSH -/

/-- The two bytes of a push are at the two addresses a pop reads, also across the wrap. -/
theorem State.push16_popValue (v : Word) : (s.push16 v).popValue = v := by
  obtain ⟨hHigh, hLow, hSp, -, -⟩ := push16_effect s v
  have hAbove : s.sp - 2 + 1 = s.sp - 1 := by bv_omega
  rw [State.popValue, hSp, hAbove, hHigh, hLow, join_hi8_lo8]

theorem State.push16_popped_sp (v : Word) : (s.push16 v).popped.sp = s.sp := by
  show s.sp - 1 - 1 + 1 + 1 = s.sp
  rw [BitVec.sub_add_cancel, BitVec.sub_add_cancel]

theorem State.push16_popped_reg16 (v : Word) (r : Reg16) : (s.push16 v).popped.reg16 r = s.reg16 r := by
  cases r with
  | sp => exact s.push16_popped_sp v
  | af | bc | de | hl | pc => rfl

/-- A byte with a zero low nibble is its high nibble. -/
theorem maskF_of_lowNibble_zero {v : Byte} (h : v &&& 0x0F = 0) : v &&& 0xF0 = v :=
  calc v &&& 0xF0 = v &&& 0xF0 ||| v &&& 0x0F := by rw [h]; exact BitVec.or_zero.symm
    _ = v &&& BitVec.allOnes 8 := BitVec.and_or_distrib_left.symm
    _ = v := BitVec.and_allOnes

/-- The mask of R23 loses nothing of `AF` when the low nibble of `F` is zero. -/
theorem State.maskAf_of_lowNibble_zero {s : State} (h : s.f &&& 0x0F = 0) : s.af &&& 0xFFF0 = s.af :=
  calc s.af &&& 0xFFF0 = join (s.setAf s.af).a (s.setAf s.af).f := (s.setAf s.af).af_eq_join
    _ = join s.a (s.f &&& 0xF0) := by rw [State.setAf_a, State.setAf_f, State.a, State.f]
    _ = s.af := by rw [maskF_of_lowNibble_zero h, ← State.af_eq_join]

/-- A register written with the value it has in `s` leaves all registers as in `s`, if they were so before. -/
theorem State.setReg16_reg16_restores {s t : State} (hRegs : ∀ r, t.reg16 r = s.reg16 r)
    (hMask : s.af &&& 0xFFF0 = s.af) (q r : Reg16) : (t.setReg16 q (s.reg16 q)).reg16 r = s.reg16 r := by
  by_cases hEq : r = q
  · subst hEq
    rw [State.reg16_setReg16_same]
    split
    · subst r
      exact hMask
    · rfl
  · rw [State.reg16_setReg16_of_ne _ hEq, hRegs]

theorem State.push16_popPair_reg16 {s : State} (hMask : s.af &&& 0xFFF0 = s.af) (p : StackPair) (r : Reg16) :
    ((s.push16 (s.stackPairGet p)).popPair p).reg16 r = s.reg16 r := by
  have hRestores := State.setReg16_reg16_restores (s.push16_popped_reg16 (s.stackPairGet p)) hMask
  rw [State.popPair, State.push16_popValue]
  cases p with
  | bc => exact hRestores .bc r
  | de => exact hRestores .de r
  | hl => exact hRestores .hl r
  | af => exact hRestores .af r

/-- Settles O30: the popped word is the pushed one, so the pair is written with the value it had. -/
theorem pushThenPopRestores : Obligations.PushThenPopRestores := by
  refine ⟨fun s v => ⟨s.push16_popValue v, s.push16_popped_sp v⟩, fun p s t hNibble hPush => ?_⟩
  obtain rfl := Host.Outcome.next.inj ((exec_pushOp s p).symm.trans hPush)
  exact ⟨_, exec_popOp _ p, State.push16_popPair_reg16 (State.maskAf_of_lowNibble_zero hNibble) p⟩

/-! ## The signed offset (R155, R175) -/

/-- A word plus a sign-extended byte is the sum of the numbers modulo 65536, the byte in two's complement (R7). -/
theorem toNat_add_sext16 (w : Word) (e : Byte) :
    ((w + sext16 e).toNat : Int) = ((w.toNat : Int) + e.toInt) % 65536 := by
  rw [sext16, BitVec.signExtend, BitVec.toNat_add, BitVec.toNat_ofInt]
  omega

/-- Settles O32: both write the signed sum and the flags of the unsigned low bytes, one to `hl`, the other to `sp`. -/
theorem signedOffsetFromSp : Obligations.SignedOffsetFromSp := by
  intro e s
  obtain ⟨hHl, hLoad⟩ := loadHlSpPlus_effect s e
  obtain ⟨hSp, hFlags, hFrame, hPc⟩ := addSp_effect s e
  exact ⟨⟨encodedAs_of_wf rfl rfl, _, rfl, hHl ▸ toNat_add_sext16 s.sp e, hLoad.flags, hLoad.frame, hLoad.sp,
      hLoad.pc⟩,
    ⟨encodedAs_of_wf rfl rfl, _, rfl, hSp ▸ toNat_add_sext16 s.sp e, hFlags, hFrame, hPc⟩⟩

/-! ## `sp` copied and stored (R156, R157) -/

theorem setSp_frame (v : Word) : Frame [] [] s (s.setSp v) := by
  obtain ⟨-, hFrame, -⟩ := pairSet_effect s .sp v
  exact hFrame

/-- A word stored: its low byte at the address, its high byte at the next one, also across the wrap (R55). -/
theorem memWrite16_effect (x v : Word) : (s.memWrite16 x v).memRead x = lo8 v ∧
    (s.memWrite16 x v).memRead (x + 1) = hi8 v ∧ Frame [] [x, x + 1] s (s.memWrite16 x v) ∧
    (s.memWrite16 x v).sp = s.sp ∧ (s.memWrite16 x v).pc = s.pc := by
  refine ⟨?_, ?_, (memWrite_frame s x _).trans (memWrite_frame _ (x + 1) _), rfl, rfl⟩
  · rw [State.memWrite16_memRead, if_neg (succ_ne_self x).symm, if_pos rfl]
  · rw [State.memWrite16_memRead, if_pos rfl]

/-- Settles O33: the first is a write of `sp`, the second a store of the word `sp`. -/
theorem stackPointerMoves : Obligations.StackPointerMoves :=
  ⟨fun s => ⟨encodedAs_of_wf rfl rfl, _, rfl, rfl, setSp_frame s s.hl, rfl⟩,
    fun x s => ⟨encodedAs_of_wf rfl rfl, _, rfl, memWrite16_effect s x s.sp⟩⟩

end Sys2Proof.Machine
end

section
/-! INC, DEC and ADD HL,rr (42_incdec_add16.md R170 to R174): each is encoded as its rule says, runs, and is one shared
operation on an operand or a pair; the sums and differences are those of the numbers, modulo the size of the operand. -/

namespace Sys2Proof.Machine

variable (s : State)

/-! ## Differences -/

/-- A difference of words is that of the numbers, on integers, modulo the number of values (R171, R173). -/
theorem toNat_sub_emod {n : Nat} (v w : BitVec n) :
    ((v - w).toNat : Int) = ((v.toNat : Int) - w.toNat) % (2 ^ n : Nat) := by
  have hLe : w.toNat ≤ 2 ^ n := w.isLt.le
  rw [BitVec.toNat_sub, Int.natCast_mod, Nat.cast_add, Nat.cast_sub hLe, sub_add_eq_add_sub, add_sub_assoc,
    Int.add_emod_left]

/-! ## INC r8 and DEC r8 (R170, R171) -/

/-- `0b00 ddd 100`. -/
theorem encodedAs_incOp (r : R8) : EncodedAs (incOp r) [BitVec.ofNat 8 (0x04 + 8 * r.index)] := by
  cases r <;> exact encodedAs_of_wf rfl rfl

theorem exec_incOp (r : R8) : exec (incOp r) s = .next (s.incR8 r) := by
  cases r <;> rfl

/-- `0b00 ddd 101`. -/
theorem encodedAs_decOp (r : R8) : EncodedAs (decOp r) [BitVec.ofNat 8 (0x05 + 8 * r.index)] := by
  cases r <;> exact encodedAs_of_wf rfl rfl

theorem exec_decOp (r : R8) : exec (decOp r) s = .next (s.decR8 r) := by
  cases r <;> rfl

/-- The zero flag of INC on numbers: only 0xFF wraps to 0. -/
theorem incFlags_of_number (v : Byte) (g : Flags) : incFlags v g =
    { z := decide ((v.toNat + 1) % 256 = 0), n := false, h := decide (v.toNat % 16 = 15), c := g.c } := by
  have hZero : v + 1 = 0 ↔ (v.toNat + 1) % 256 = 0 := BitVec.toNat_inj.symm
  rw [incFlags, decide_eq_decide.mpr hZero]

/-- The zero flag of DEC on numbers: only 1 becomes 0. -/
theorem decFlags_of_number (v : Byte) (g : Flags) : decFlags v g =
    { z := decide (v.toNat = 1), n := true, h := decide (v.toNat % 16 = 0), c := g.c } := by
  have hZero : v - 1 = 0 ↔ v.toNat = 1 := sub_eq_zero.trans BitVec.toNat_inj.symm
  rw [decFlags, decide_eq_decide.mpr hZero]

/-- Settles O34: one more or one less is written to the operand, and the flags are those of the old value. -/
theorem incrementAndDecrementByte : Obligations.IncrementAndDecrementByte := by
  intro r s
  obtain ⟨hInc, hIncEffect⟩ := incR8_effect s r
  obtain ⟨hDec, hDecEffect⟩ := decR8_effect s r
  rw [incFlags_of_number] at hIncEffect
  rw [decFlags_of_number] at hDecEffect
  exact ⟨⟨encodedAs_incOp r, _, exec_incOp s r, hInc ▸ BitVec.toNat_add _ 1, hIncEffect.flags, hIncEffect.frame,
      hIncEffect.sp, hIncEffect.pc⟩,
    ⟨encodedAs_decOp r, _, exec_decOp s r, hDec ▸ toNat_sub_emod _ 1, hDecEffect.flags, hDecEffect.frame,
      hDecEffect.sp, hDecEffect.pc⟩⟩

/-! ## INC rr and DEC rr (R172, R173) -/

/-- `0b00 pp0 011`. -/
theorem encodedAs_incPairOp (p : Pair) : EncodedAs (incPairOp p) [BitVec.ofNat 8 (0x03 + 16 * p.index)] := by
  cases p <;> exact encodedAs_of_wf rfl rfl

theorem exec_incPairOp (p : Pair) : exec (incPairOp p) s = .next (s.pairSet p (s.pairGet p + 1)) := by
  cases p <;> rfl

/-- `0b00 pp1 011`. -/
theorem encodedAs_decPairOp (p : Pair) : EncodedAs (decPairOp p) [BitVec.ofNat 8 (0x0B + 16 * p.index)] := by
  cases p <;> exact encodedAs_of_wf rfl rfl

theorem exec_decPairOp (p : Pair) : exec (decPairOp p) s = .next (s.pairSet p (s.pairGet p - 1)) := by
  cases p <;> rfl

/-- Settles O35: the pair, `sp` included, is written with one more or one less. -/
theorem incrementAndDecrementPair : Obligations.IncrementAndDecrementPair := by
  intro p s
  obtain ⟨hInc, hIncStays⟩ := pairSet_effect s p (s.pairGet p + 1)
  obtain ⟨hDec, hDecStays⟩ := pairSet_effect s p (s.pairGet p - 1)
  have hIncNumber : ((s.pairSet p (s.pairGet p + 1)).pairGet p).toNat = ((s.pairGet p).toNat + 1) % 65536 := by
    rw [hInc]
    exact BitVec.toNat_add _ 1
  have hDecNumber : (((s.pairSet p (s.pairGet p - 1)).pairGet p).toNat : Int) =
      (((s.pairGet p).toNat : Int) - 1) % 65536 := by
    rw [hDec]
    exact toNat_sub_emod _ 1
  exact ⟨⟨encodedAs_incPairOp p, _, exec_incPairOp s p, hIncNumber, hIncStays⟩,
    ⟨encodedAs_decPairOp p, _, exec_decPairOp s p, hDecNumber, hDecStays⟩⟩

/-! ## ADD HL,rr (R174) -/

/-- `0b00 pp1 001`. -/
theorem encodedAs_addHlOp (p : Pair) : EncodedAs (addHlOp p) [BitVec.ofNat 8 (0x09 + 16 * p.index)] := by
  cases p <;> exact encodedAs_of_wf rfl rfl

theorem exec_addHlOp (p : Pair) : exec (addHlOp p) s = .next (s.addHl (s.pairGet p)) := by
  cases p <;> rfl

/-- Settles O36: both words are read before `hl` is written, and the flags are the carries of their sum. -/
theorem addPairToHl : Obligations.AddPairToHl := by
  intro p s
  obtain ⟨hSum, hEffect⟩ := addHl_effect s (s.pairGet p)
  exact ⟨encodedAs_addHlOp p, _, exec_addHlOp s p, hSum ▸ BitVec.toNat_add _ _, hEffect.flags, hEffect.frame,
    hEffect.sp, hEffect.pc⟩

end Sys2Proof.Machine
end

section
/-! The accumulator rotates, DAA, CPL, SCF and CCF (43_acc_rotate_misc.md R190 to R197): each is encoded as its rule
says, runs, and is one shared operation on `A` and the flags; its result is that of the numbers. -/

namespace Sys2Proof.Machine

/-! ## Rotates on numbers -/

/-- A bit put into an empty place of a byte adds its value. -/
theorem toNat_or_bitByte {v : Byte} {i : Nat} (hPlace : i < 8) (hEmpty : v.getLsbD i = false) (b : Bool) :
    (v ||| bitByte b <<< i).toNat = v.toNat + b.toNat * 2 ^ i := by
  cases b with
  | false => simp [bitByte]
  | true =>
    have hDisjoint : v &&& BitVec.twoPow 8 i = 0 := by simp [BitVec.and_twoPow, hEmpty]
    have hBit : bitByte true <<< i = BitVec.twoPow 8 i := rfl
    rw [hBit, ← BitVec.add_eq_or_of_and_eq_zero _ _ hDisjoint, BitVec.toNat_add_of_and_eq_zero hDisjoint,
      BitVec.toNat_twoPow_of_lt hPlace, Bool.toNat_true, one_mul]

/-- A left shift empties bit 0, where `c` enters. -/
theorem rl8_toNat (c : Bool) (v : Byte) : (rl8 c v).1.toNat = (2 * v.toNat) % 256 + c.toNat := by
  have hEmpty : (v <<< 1).getLsbD 0 = false := by simp
  have hEnter := toNat_or_bitByte (by decide) hEmpty c
  rw [BitVec.shiftLeft_zero, pow_zero, mul_one, BitVec.toNat_shiftLeft, Nat.shiftLeft_eq, mul_comm v.toNat] at hEnter
  exact hEnter

/-- A right shift empties bit 7, where `c` enters. -/
theorem rr8_toNat (c : Bool) (v : Byte) : (rr8 c v).1.toNat = v.toNat / 2 + 128 * c.toNat := by
  have hEmpty : (v >>> 1).getLsbD 7 = false := by simp
  have hEnter := toNat_or_bitByte (by decide) hEmpty c
  rw [BitVec.toNat_ushiftRight, Nat.shiftRight_eq_div_pow, mul_comm c.toNat] at hEnter
  exact hEnter

/-- The bit that enters is bit 7 itself. -/
theorem rlc8_toNat (v : Byte) : (rlc8 v).1.toNat = (2 * v.toNat) % 256 + v.toNat / 128 := by
  have hBit : (v.getLsbD 7).toNat = v.toNat / 128 := by
    have hByte := v.isLt
    rw [BitVec.getLsbD, Nat.toNat_testBit]
    omega
  exact hBit ▸ rl8_toNat (v.getLsbD 7) v

/-- The bit that enters is bit 0 itself. -/
theorem rrc8_toNat (v : Byte) : (rrc8 v).1.toNat = v.toNat / 2 + 128 * (v.toNat % 2) := by
  have hBit : (v.getLsbD 0).toNat = v.toNat % 2 := by
    rw [BitVec.getLsbD, Nat.toNat_testBit, pow_zero, Nat.div_one]
  exact hBit ▸ rr8_toNat (v.getLsbD 0) v

/-! ## RLCA, RRCA, RLA, RRA (R190 to R193) -/

/-- What an accumulator rotate does when its result, as a number, is `n` and the bit that leaves is `out`. -/
theorem rotateA_effect_number (s : State) {op : Byte → Byte × Bool} {n : Nat} (hResult : (op s.a).1.toNat = n) :
    (s.rotateA op).a.toNat = n ∧
    FlagsBecome { z := false, n := false, h := false, c := (op s.a).2 } s (s.rotateA op) ∧
    Frame [.a, .f] [] s (s.rotateA op) ∧ (s.rotateA op).sp = s.sp ∧ (s.rotateA op).pc = s.pc := by
  obtain ⟨hA, hEffect⟩ := rotateA_effect s op
  exact ⟨hA ▸ hResult, hEffect.flags, hEffect.frame, hEffect.sp, hEffect.pc⟩

/-- Settles O37: the four are one rotate of `A`, the zero flag forced to 0. -/
theorem accumulatorRotates : Obligations.AccumulatorRotates :=
  fun s =>
    ⟨⟨encodedAs_of_wf rfl rfl, _, rfl, rotateA_effect_number s (rlc8_toNat s.a)⟩,
      ⟨encodedAs_of_wf rfl rfl, _, rfl, rotateA_effect_number s (rrc8_toNat s.a)⟩,
      ⟨encodedAs_of_wf rfl rfl, _, rfl, rotateA_effect_number s (rl8_toNat s.fC s.a)⟩,
      ⟨encodedAs_of_wf rfl rfl, _, rfl, rotateA_effect_number s (rr8_toNat s.fC s.a)⟩⟩

/-! ## DAA (R194) -/

/-- The adjustments of the two digits do not overflow a byte together. -/
theorem toNat_digitAdjustments (low high : Prop) [Decidable low] [Decidable high] :
    ((if low then 0x06 else 0 : Byte) + (if high then 0x60 else 0)).toNat =
      (if low then 6 else 0) + (if high then 0x60 else 0) := by
  split_ifs <;> rfl

/-- The subtraction path, on integers. -/
theorem daaResult_of_subtract (a : Byte) {g : Flags} (hN : g.n = true) :
    ((daaResult a g).toNat : Int) =
      ((a.toNat : Int) - ((if g.h then 6 else 0) + (if g.c then 0x60 else 0))) % 256 := by
  rw [daaResult, if_pos hN, toNat_sub_emod, daaAdjust, if_pos hN, toNat_digitAdjustments]
  push_cast
  rfl

/-- The addition path, both tests on the old `A`. -/
theorem daaResult_of_add (a : Byte) {g : Flags} (hN : g.n = false) :
    (daaResult a g).toNat = (a.toNat + ((if g.h = true ∨ a.toNat % 16 > 9 then 6 else 0) +
      (if g.c = true ∨ a.toNat > 0x99 then 0x60 else 0))) % 256 := by
  have hAdd : ¬g.n = true := Bool.eq_false_iff.mp hN
  rw [daaResult, if_neg hAdd, BitVec.toNat_add, daaAdjust, if_neg hAdd, toNat_digitAdjustments]

theorem daaCarry_of_subtract (a : Byte) {g : Flags} (hN : g.n = true) : daaCarry a g = g.c := if_pos hN

theorem daaCarry_of_add (a : Byte) {g : Flags} (hN : g.n = false) :
    daaCarry a g = (g.c || decide (a.toNat > 0x99)) := if_neg (Bool.eq_false_iff.mp hN)

/-- The zero flag on the number. -/
theorem daaFlags_of_number (a : Byte) (g : Flags) : daaFlags a g =
    { z := decide ((daaResult a g).toNat = 0), n := g.n, h := false, c := daaCarry a g } := by
  have hZero : daaResult a g = 0 ↔ (daaResult a g).toNat = 0 := BitVec.toNat_inj.symm
  rw [daaFlags, decide_eq_decide.mpr hZero]

/-- Settles O38: `N` chooses the path, and each path gives its own result and carry. -/
theorem decimalAdjust : Obligations.DecimalAdjust := by
  refine ⟨encodedAs_of_wf rfl rfl, fun s => ⟨_, rfl, ?_⟩⟩
  obtain ⟨hA, hEffect⟩ := decimalAdjust_effect s
  have hFlags := hEffect.flags
  have hCarry : s.decimalAdjust.fC = daaCarry s.a s.flags := congrArg Flags.c hFlags.flags
  rw [daaFlags_of_number, ← hA, ← hCarry] at hFlags
  refine ⟨fun hN => ⟨?_, ?_⟩, fun hN => ⟨?_, ?_⟩, hFlags, hEffect.frame, hEffect.sp, hEffect.pc⟩
  · exact hA ▸ daaResult_of_subtract s.a hN
  · exact hCarry.trans (daaCarry_of_subtract s.a hN)
  · exact hA ▸ daaResult_of_add s.a hN
  · exact hCarry.trans (daaCarry_of_add s.a hN)

/-! ## CPL, SCF, CCF (R195 to R197) -/

theorem xor_ff_toNat (v : Byte) : (v ^^^ 0xFF).toNat = 255 - v.toNat :=
  (congrArg BitVec.toNat BitVec.xor_allOnes).trans BitVec.toNat_not

/-- Settles O39: CPL writes `A` and the flags, SCF and CCF the flags alone; each passes the flags it keeps as they
were. -/
theorem complementAndCarryOperations : Obligations.ComplementAndCarryOperations := by
  intro s
  obtain ⟨hA, hCpl⟩ := complementA_effect s
  have hScf := setCarryFlag_effect s
  have hCcf := complementCarryFlag_effect s
  exact ⟨⟨encodedAs_of_wf rfl rfl, _, rfl, hA ▸ xor_ff_toNat s.a, hCpl.flags, hCpl.frame, hCpl.sp, hCpl.pc⟩,
    ⟨encodedAs_of_wf rfl rfl, _, rfl, hScf.flags, hScf.frame, hScf.sp, hScf.pc⟩,
    ⟨encodedAs_of_wf rfl rfl, _, rfl, hCcf.flags, hCcf.frame, hCcf.sp, hCcf.pc⟩⟩

end Sys2Proof.Machine
end

section
/-! Jumps, calls, returns and restarts (44_control.md R210 to R221): each is encoded as its rule says, runs, and is one
shared operation, which a condition that fails leaves out. -/

namespace Sys2Proof.Machine

variable (s : State)

/-! ## The tables of the conditional forms and of RST (R212, R214, R217, R220, R221) -/

/-- `0b001 cc 000`, then the displacement. -/
theorem encodedAs_jrOp (cc : Cond) (e : Byte) : EncodedAs (jrOp cc e) [BitVec.ofNat 8 (0x20 + 8 * cc.index), e] := by
  cases cc <;> exact encodedAs_of_wf rfl rfl

theorem exec_jrOp (cc : Cond) (e : Byte) : exec (jrOp cc e) s = .next (s.jumpRelIf cc e) := by
  cases cc <;> rfl

/-- `0b110 cc 010`, then the target, its low byte first. -/
theorem encodedAs_jpOp (cc : Cond) (a : Word) :
    EncodedAs (jpOp cc a) [BitVec.ofNat 8 (0xC2 + 8 * cc.index), lo8 a, hi8 a] := by
  cases cc <;> exact encodedAs_of_wf rfl rfl

theorem exec_jpOp (cc : Cond) (a : Word) : exec (jpOp cc a) s = .next (s.jumpIf cc a) := by
  cases cc <;> rfl

/-- `0b110 cc 100`, then the target, its low byte first. -/
theorem encodedAs_callOp (cc : Cond) (a : Word) :
    EncodedAs (callOp cc a) [BitVec.ofNat 8 (0xC4 + 8 * cc.index), lo8 a, hi8 a] := by
  cases cc <;> exact encodedAs_of_wf rfl rfl

theorem exec_callOp (cc : Cond) (a : Word) : exec (callOp cc a) s = .next (s.callIf cc a) := by
  cases cc <;> rfl

/-- `0b110 cc 000`. -/
theorem encodedAs_retOp (cc : Cond) : EncodedAs (retOp cc) [BitVec.ofNat 8 (0xC0 + 8 * cc.index)] := by
  cases cc <;> exact encodedAs_of_wf rfl rfl

theorem exec_retOp (cc : Cond) : exec (retOp cc) s = .next (s.retIf cc) := by
  cases cc <;> rfl

/-- `0b11 kkk 111`. -/
theorem encodedAs_rstOp (k : Fin 8) : EncodedAs (rstOp k) [BitVec.ofNat 8 (0xC7 + 8 * k.val)] := by
  fin_cases k <;> exact encodedAs_of_wf rfl rfl

/-- A restart is a call of eight times its column (C1, D11). -/
theorem exec_rstOp (k : Fin 8) : exec (rstOp k) s = .next (s.call (BitVec.ofNat 16 (8 * k.val))) := by
  fin_cases k <;> rfl

/-! ## The conditional operations, taken and not taken -/

section
variable {s : State} {cc : Cond}

theorem State.jumpRelIf_of_untaken (h : s.cond cc = false) (e : Byte) : s.jumpRelIf cc e = s :=
  if_neg (ne_true_of_eq_false h)

theorem State.jumpIf_of_untaken (h : s.cond cc = false) (a : Word) : s.jumpIf cc a = s :=
  if_neg (ne_true_of_eq_false h)

theorem State.callIf_of_taken (h : s.cond cc = true) (a : Word) : s.callIf cc a = s.call a := if_pos h

theorem State.callIf_of_untaken (h : s.cond cc = false) (a : Word) : s.callIf cc a = s :=
  if_neg (ne_true_of_eq_false h)

theorem State.retIf_of_taken (h : s.cond cc = true) : s.retIf cc = s.ret := if_pos h

theorem State.retIf_of_untaken (h : s.cond cc = false) : s.retIf cc = s := if_neg (ne_true_of_eq_false h)

end

/-- A conditional relative jump writes `pc`, with the present value if it is not taken. -/
theorem State.jumpRelIf_eq_setPc (cc : Cond) (e : Byte) :
    s.jumpRelIf cc e = s.setPc (if s.cond cc then s.pc + sext16 e else s.pc) := (apply_ite s.setPc ..).symm

/-- A conditional absolute jump writes `pc`, with the present value if it is not taken. -/
theorem State.jumpIf_eq_setPc (cc : Cond) (a : Word) :
    s.jumpIf cc a = s.setPc (if s.cond cc then a else s.pc) := (apply_ite s.setPc ..).symm

theorem setPc_frame (v : Word) : Frame [] [] s (s.setPc v) :=
  ⟨fun q _ => by cases q <;> rfl, fun _ _ => rfl, rfl, rfl⟩

theorem setPc_effect (v : Word) : (s.setPc v).pc = v ∧ Frame [] [] s (s.setPc v) ∧ (s.setPc v).sp = s.sp :=
  ⟨rfl, setPc_frame s v, rfl⟩

/-! ## Jumps (R211 to R215) -/

/-- Settles O45: both forms write `pc`, with the signed sum if the jump is taken. -/
theorem relativeJumps : Obligations.RelativeJumps := by
  refine fun e s => ⟨⟨encodedAs_of_wf rfl rfl, _, rfl, toNat_add_sext16 s.pc e, setPc_frame s _, rfl⟩,
    fun cc => ⟨encodedAs_jrOp cc e, _, exec_jrOp s cc e, ?_⟩⟩
  rw [State.jumpRelIf_eq_setPc]
  refine ⟨fun hTaken => ?_, fun hUntaken => if_neg (ne_true_of_eq_false hUntaken), setPc_frame s _, rfl⟩
  rw [State.setPc_pc, if_pos hTaken, toNat_add_sext16]

/-- Settles O46: each form writes `pc`, a conditional one that is not taken with the value it has. -/
theorem absoluteJumps : Obligations.AbsoluteJumps :=
  ⟨fun a s => ⟨⟨encodedAs_of_wf rfl rfl, _, rfl, setPc_effect s a⟩,
      fun cc => ⟨encodedAs_jpOp cc a, _, exec_jpOp s cc a, s.jumpIf_eq_setPc cc a ▸ setPc_effect s _⟩⟩,
    fun s => ⟨encodedAs_of_wf rfl rfl, _, rfl, setPc_effect s s.hl⟩⟩

/-! ## Calls, returns, restarts (R216 to R221) -/

/-- Settles O49: a call that is taken pushes the address after it and jumps, one that is not is no operation. -/
theorem callsPushTheReturnAddress : Obligations.CallsPushTheReturnAddress :=
  fun a s => ⟨⟨encodedAs_of_wf rfl rfl, _, rfl, call_effect s a⟩,
    fun cc => ⟨encodedAs_callOp cc a, _, exec_callOp s cc a,
      fun hTaken => State.callIf_of_taken hTaken a ▸ call_effect s a,
      fun hUntaken => State.callIf_of_untaken hUntaken a⟩⟩

/-- RETI: the return from a state in which `IME` is set already (R219). -/
theorem ret_setIme (b : Bool) : s.ret.setIme b = (s.setIme b).ret := rfl

/-- Settles O50: a return that is taken pops `pc`, one that is not is no operation; RETI sets `IME` beside it. -/
theorem returnsPopTheAddress : Obligations.ReturnsPopTheAddress := by
  intro s
  obtain ⟨hPc, hSp, hFrame⟩ := ret_effect (s.setIme true)
  exact ⟨⟨encodedAs_of_wf rfl rfl, _, rfl, ret_effect s⟩,
    ⟨encodedAs_of_wf rfl rfl, _, rfl, hPc, hSp, rfl, ret_setIme s true ▸ hFrame⟩,
    fun cc => ⟨encodedAs_retOp cc, _, exec_retOp s cc,
      fun hTaken => State.retIf_of_taken hTaken ▸ ret_effect s, State.retIf_of_untaken⟩⟩

/-- Settles O51: a restart is a call, and its target is below 65536, so it is eight times the column as a number. -/
theorem restartsCallFixedAddresses : Obligations.RestartsCallFixedAddresses := by
  intro k s
  obtain ⟨hPc, hPushed⟩ := call_effect s (BitVec.ofNat 16 (8 * k.val))
  exact ⟨encodedAs_rstOp k, _, exec_rstOp s k, hPc ▸ toNat_addressOf (by omega), hPushed⟩

/-! ## A step whose condition fails (R83, R210) -/

section
variable {s : State} {cc : Cond}

/-- The step of an instruction that leaves the state as it finds it moves `pc` past its bytes and does nothing else. -/
theorem step_of_idle {i : Instr} {bytes rest : List Byte} (hRun : s.run = .running)
    (hDecode : decode (s.readRange s.pc 3) = .ok i rest) (hBytes : EncodedAs i bytes)
    (hIdle : ∀ v, exec i (s.setPc v) = .next (s.setPc v)) :
    step s = .next (s.setPc (s.pc + BitVec.ofNat 16 bytes.length)) := by
  obtain ⟨hEncode, -⟩ := hBytes
  rw [stepRunsDecodedInstruction s i rest hRun hDecode, hEncode, hIdle]

theorem exec_jrOp_of_untaken (h : s.cond cc = false) (e : Byte) : exec (jrOp cc e) s = .next s := by
  rw [exec_jrOp, State.jumpRelIf_of_untaken h]

theorem exec_jpOp_of_untaken (h : s.cond cc = false) (a : Word) : exec (jpOp cc a) s = .next s := by
  rw [exec_jpOp, State.jumpIf_of_untaken h]

theorem exec_callOp_of_untaken (h : s.cond cc = false) (a : Word) : exec (callOp cc a) s = .next s := by
  rw [exec_callOp, State.callIf_of_untaken h]

theorem exec_retOp_of_untaken (h : s.cond cc = false) : exec (retOp cc) s = .next s := by
  rw [exec_retOp, State.retIf_of_untaken h]

end

/-- Settles O48: the condition reads the flags, which moving `pc` leaves, so it fails when the instruction runs. -/
theorem conditionalsConsumeImmediates : Obligations.ConditionalsConsumeImmediates := by
  intro s cc e a rest hRun hCond
  have hFails (v : Word) : (s.setPc v).cond cc = false := (State.cond_congr rfl cc).trans hCond
  exact ⟨fun hJr => step_of_idle hRun hJr (encodedAs_jrOp cc e) fun v => exec_jrOp_of_untaken (hFails v) e,
    fun hJp => step_of_idle hRun hJp (encodedAs_jpOp cc a) fun v => exec_jpOp_of_untaken (hFails v) a,
    fun hCall => step_of_idle hRun hCall (encodedAs_callOp cc a) fun v => exec_callOp_of_untaken (hFails v) a,
    fun hRet => step_of_idle hRun hRet (encodedAs_retOp cc) fun v => exec_retOp_of_untaken (hFails v)⟩

end Sys2Proof.Machine
end

section
/-! The accumulator ALU group (45_alu8.md R240 to R249): the register forms and the immediate form of an operation are
one shared operation on their operand; its sums and differences are those of the numbers, modulo 256. -/

namespace Sys2Proof

open Sys2Proof.Machine

/-- The parts of a flag effect as the statements of the ALU group list them. -/
theorem FlagEffect.parts {regs : List Reg8} {stored : List Word} {g : Flags} {s t : State}
    (h : FlagEffect regs stored g s t) :
    FlagsBecome g s t ∧ Frame regs stored s t ∧ t.sp = s.sp ∧ t.pc = s.pc :=
  ⟨h.flags, h.frame, h.sp, h.pc⟩

end Sys2Proof

namespace Sys2Proof.Machine

/-! ## Both forms of an operation (R240, R249) -/

/-- The shared operation that an ALU instruction runs on its operand. -/
def State.alu (s : State) (op : AluOp) (x : Byte) : State :=
  match op with
  | .add => s.aluAdd x
  | .adc => s.aluAdc x
  | .sub => s.aluSub x
  | .sbc => s.aluSbc x
  | .and => s.aluAnd x
  | .xor => s.aluXor x
  | .or => s.aluOr x
  | .cp => s.aluCp x

/-- `0b10 ooo sss`. -/
theorem encodedAs_aluOp (op : AluOp) (r : R8) :
    EncodedAs (aluOp op r) [BitVec.ofNat 8 (0x80 + 8 * op.index + r.index)] := by
  cases op <;> cases r <;> exact encodedAs_of_wf rfl rfl

theorem exec_aluOp (op : AluOp) (r : R8) (s : State) : exec (aluOp op r) s = .next (s.alu op (s.r8get r)) := by
  cases op <;> cases r <;> rfl

/-- `0b11 ooo 110`, then the byte. -/
theorem encodedAs_aluImmOp (op : AluOp) (n : Byte) :
    EncodedAs (aluImmOp op n) [BitVec.ofNat 8 (0xC6 + 8 * op.index), n] := by
  cases op <;> exact encodedAs_of_wf rfl rfl

theorem exec_aluImmOp (op : AluOp) (n : Byte) (s : State) : exec (aluImmOp op n) s = .next (s.alu op n) := by
  cases op <;> rfl

/-- What the shared operation does on every operand, all nine forms do. -/
theorem aluForms_of_alu {op : AluOp} {effect : Byte → State → State → Prop}
    (h : ∀ x s, effect x s (s.alu op x)) : AluForms op effect :=
  ⟨fun r s => ⟨encodedAs_aluOp op r, _, exec_aluOp op r s, h (s.r8get r) s⟩,
    fun n s => ⟨encodedAs_aluImmOp op n, _, exec_aluImmOp op n s, h n s⟩⟩

/-! ## Sums (R241, R242) -/

/-- The carry as a byte has the carry's value. -/
theorem toNat_carryByte (c : Bool) : (BitVec.ofNat 8 c.toNat).toNat = c.toNat := by
  cases c <;> rfl

/-- The three-term sum is that of the numbers, modulo 256. -/
theorem toNat_add_carry (a x : Byte) (c : Bool) :
    (a + x + BitVec.ofNat 8 c.toNat).toNat = (a.toNat + x.toNat + c.toNat) % 256 := by
  rw [BitVec.toNat_add, BitVec.toNat_add, toNat_carryByte, Nat.mod_add_mod]

/-- Settles O40: the sum is written to `A`, and the flags are the carries of the sum without a carry in. -/
theorem addToAccumulator : Obligations.AddToAccumulator :=
  aluForms_of_alu fun x s => by
    obtain ⟨hA, hEffect⟩ := aluAdd_effect s x
    exact ⟨hA ▸ BitVec.toNat_add s.a x, hEffect.parts⟩

/-- Settles O41: the carry in is a term of the sum and of both carries. -/
theorem addWithCarryToAccumulator : Obligations.AddWithCarryToAccumulator :=
  aluForms_of_alu fun x s => by
    obtain ⟨hA, hEffect⟩ := aluAdc_effect s x
    exact ⟨hA ▸ toNat_add_carry s.a x s.fC, hEffect.parts⟩

/-! ## Differences (R243, R244, R248) -/

/-- The difference with the borrow in is that of the numbers, on integers, modulo 256. -/
theorem toNat_sub_carry (a x : Byte) (c : Bool) :
    ((a - x - BitVec.ofNat 8 c.toNat).toNat : Int) = ((a.toNat : Int) - x.toNat - c.toNat) % 256 := by
  rw [toNat_sub_emod, toNat_sub_emod, toNat_carryByte]
  exact Int.emod_sub_emod _ _ _

/-- The flags of a difference, zero decided on the number. -/
theorem subFlags_of_number (a x : Byte) (c : Bool) : subFlags a x c =
    { z := decide (((a.toNat : Int) - x.toNat - c.toNat) % 256 = 0), n := true,
      h := decide (a.toNat % 16 < x.toNat % 16 + c.toNat), c := decide (a.toNat < x.toNat + c.toNat) } := by
  have hZero : a - x - BitVec.ofNat 8 c.toNat = 0 ↔ ((a.toNat : Int) - x.toNat - c.toNat) % 256 = 0 := by
    rw [← toNat_sub_carry, Int.natCast_eq_zero]
    exact BitVec.toNat_inj.symm
  rw [subFlags, decide_eq_decide.mpr hZero]

/-- The flags of a difference without a borrow in: zero says that the operands are equal. -/
theorem subFlags_of_compare (a x : Byte) : subFlags a x false =
    { z := decide (a = x), n := true, h := decide (a.toNat % 16 < x.toNat % 16),
      c := decide (a.toNat < x.toNat) } := by
  have hZero : a - x - BitVec.ofNat 8 false.toNat = 0 ↔ a = x := by
    rw [Bool.toNat_false, BitVec.ofNat_eq_ofNat, BitVec.sub_zero]
    exact sub_eq_zero
  rw [subFlags, decide_eq_decide.mpr hZero, Bool.toNat_false, Nat.add_zero, Nat.add_zero]

/-- Settles O42: SUB writes the difference to `A` and the flags of the comparison, CP those flags alone. -/
theorem subtractAndCompare : Obligations.SubtractAndCompare := by
  refine ⟨aluForms_of_alu fun x s => ?_, aluForms_of_alu fun x s => ?_⟩
  · obtain ⟨hA, hEffect⟩ := aluSub_effect s x
    rw [subFlags_of_compare] at hEffect
    exact ⟨hA ▸ toNat_sub_emod s.a x, hEffect.parts⟩
  · have hEffect := aluCp_effect s x
    rw [subFlags_of_compare] at hEffect
    exact hEffect.parts

/-- Settles O43: the borrow in is a term of the difference and of both comparisons. -/
theorem subtractWithCarryFromAccumulator : Obligations.SubtractWithCarryFromAccumulator :=
  aluForms_of_alu fun x s => by
    obtain ⟨hA, hEffect⟩ := aluSbc_effect s x
    rw [subFlags_of_number] at hEffect
    exact ⟨hA ▸ toNat_sub_carry s.a x s.fC, hEffect.parts⟩

/-! ## Logic (R245, R246, R247) -/

/-- Settles O44: the result is written to `A`, bit by bit, and zero is decided on it. -/
theorem logicOnAccumulator : Obligations.LogicOnAccumulator := by
  refine ⟨aluForms_of_alu fun x s => ?_, aluForms_of_alu fun x s => ?_, aluForms_of_alu fun x s => ?_⟩
  · obtain ⟨hA, hEffect⟩ := aluAnd_effect s x
    rw [← hA] at hEffect
    exact ⟨fun _ => hA ▸ BitVec.getLsbD_and, hEffect.parts⟩
  · obtain ⟨hA, hEffect⟩ := aluXor_effect s x
    rw [← hA] at hEffect
    exact ⟨fun _ => hA ▸ BitVec.getLsbD_xor, hEffect.parts⟩
  · obtain ⟨hA, hEffect⟩ := aluOr_effect s x
    rw [← hA] at hEffect
    exact ⟨fun _ => hA ▸ BitVec.getLsbD_or, hEffect.parts⟩

end Sys2Proof.Machine
end

section
/-! NOP, HALT, STOP, DI, EI and the eleven invalid slots (46_system.md R270 to R277). -/

namespace Sys2Proof.Machine

/-! ## The invalid slots (R277, R321) -/

/-- The eleven invalid instructions, each with its opcode byte: the list of R277. -/
def invalidInstrs : List (Instr × Byte) :=
  [(.invalidD3, 0xD3), (.invalidDB, 0xDB), (.invalidDD, 0xDD), (.invalidE3, 0xE3), (.invalidE4, 0xE4),
    (.invalidEB, 0xEB), (.invalidEC, 0xEC), (.invalidED, 0xED), (.invalidF4, 0xF4), (.invalidFC, 0xFC),
    (.invalidFD, 0xFD)]

theorem invalidSlots_eq_map_invalidInstrs : invalidSlots = invalidInstrs.map Prod.snd := rfl

/-- Each is the cell of its byte in the grid (R91), and all it does is to raise the exception with that byte. -/
theorem baseEntry_and_exec_of_mem_invalidInstrs {e : Instr × Byte} (h : e ∈ invalidInstrs) :
    baseEntry e.2 = .op e.1 ∧ ∀ s, exec e.1 s = raiseInvalidOpcode e.2 s := by
  fin_cases h <;> exact ⟨rfl, fun _ => rfl⟩

theorem encodedAs_of_baseEntry_op {b : Byte} {i : Instr} (h : baseEntry b = .op i) : EncodedAs i [b] := by
  obtain ⟨hWf, hEncode, -⟩ : (Entry.op i).FitsByte b := h ▸ baseEntry_fits b
  exact encodedAs_of_wf hWf hEncode

/-- A step at an opcode without immediate runs the cell of the byte at `pc`, with `pc` past that one byte (R83, R85). -/
theorem step_of_baseEntry_op {s : State} {i : Instr} (hRun : s.run = .running)
    (hCell : baseEntry (s.memRead s.pc) = .op i) : step s = exec i (s.setPc (s.pc + 1)) := by
  obtain ⟨hEncode, -⟩ := encodedAs_of_baseEntry_op hCell
  have hDecode := decode_of_op [s.memRead (s.pc + 1), s.memRead (s.pc + 2)] hCell
  rw [← State.readRange_three] at hDecode
  rw [stepRunsDecodedInstruction s i _ hRun hDecode, hEncode]
  rfl

/-- The one byte is taken back in the fault, so it reports the `pc` of before the step (log 6), 0xFFFF included. -/
theorem raiseInvalidOpcode_past_opcode (op : Byte) (s : State) :
    raiseInvalidOpcode op (s.setPc (s.pc + 1)) = .fault (.invalidOpcode op s.pc) := by
  rw [raiseInvalidOpcode, State.setPc_pc, BitVec.add_sub_cancel]

theorem step_of_mem_invalidSlots {s : State} (hRun : s.run = .running) (h : s.memRead s.pc ∈ invalidSlots) :
    step s = .fault (.invalidOpcode (s.memRead s.pc) s.pc) := by
  rw [invalidSlots_eq_map_invalidInstrs] at h
  obtain ⟨e, he, hByte⟩ := List.mem_map.1 h
  obtain ⟨hCell, hExec⟩ := baseEntry_and_exec_of_mem_invalidInstrs he
  rw [hByte] at hCell hExec
  rw [step_of_baseEntry_op hRun hCell, hExec, raiseInvalidOpcode_past_opcode]

/-- Settles O7: an invalid slot is a cell of the grid whose meaning raises the exception. -/
theorem invalidSlotFaults : Obligations.InvalidSlotFaults := by
  refine ⟨fun e he => ?_, fun _ => step_of_mem_invalidSlots⟩
  obtain ⟨hCell, hExec⟩ := baseEntry_and_exec_of_mem_invalidInstrs he
  exact ⟨encodedAs_of_baseEntry_op hCell, hExec⟩

/-! ## NOP, STOP, DI, EI (R270, R273 to R275) -/

/-- Settles O52: each of the four writes one field of the state, NOP none. -/
theorem nopStopDiEi : Obligations.NopStopDiEi :=
  fun _ => ⟨⟨encodedAs_of_wf rfl rfl, rfl⟩, ⟨encodedAs_of_wf rfl rfl, rfl⟩,
    ⟨encodedAs_of_wf rfl rfl, rfl⟩, ⟨encodedAs_of_wf rfl rfl, rfl⟩⟩

/-! ## HALT (R272) -/

theorem State.haltIfEnabled_of_enabled {s : State} (h : s.ime = true) : s.haltIfEnabled = s.setRun .halted := if_pos h

theorem State.haltIfEnabled_of_disabled {s : State} (h : s.ime = false) : s.haltIfEnabled = s :=
  if_neg (ne_true_of_eq_false h)

/-- Settles O53: the two branches of HALT. -/
theorem haltDependsOnTheLatch : Obligations.HaltDependsOnTheLatch :=
  fun _ => ⟨encodedAs_of_wf rfl rfl, fun hIme => congrArg Host.Outcome.next (State.haltIfEnabled_of_enabled hIme),
    fun hIme => congrArg Host.Outcome.next (State.haltIfEnabled_of_disabled hIme)⟩

end Sys2Proof.Machine
end

section
/-! The extension table (47_cb.md R290 to R301): each entry is encoded as the prefix and its byte, runs, and is one
shared operation on its operand, `(HL)` included; its result is that of the numbers. -/

namespace Sys2Proof.Machine

/-! ## Shifts and SWAP on numbers -/

theorem toNat_shiftLeft_one (v : Byte) : (v <<< 1).toNat = (2 * v.toNat) % 256 := by
  rw [BitVec.toNat_shiftLeft, Nat.shiftLeft_eq, pow_one, mul_comm]

theorem toNat_shiftRight_one (v : Byte) : (v >>> 1).toNat = v.toNat / 2 := by
  rw [BitVec.toNat_ushiftRight, Nat.shiftRight_eq_div_pow, pow_one]

/-- The kept bit 7 as a byte. -/
theorem and_bit7_eq_bitByte (v : Byte) : v &&& (0x80 : Byte) = bitByte (v.getLsbD 7) <<< 7 := by
  have hMask : v &&& BitVec.twoPow 8 7 = if v.getLsbD 7 then BitVec.twoPow 8 7 else 0 := BitVec.and_twoPow v 7
  cases hBit : v.getLsbD 7 <;> rw [hBit] at hMask <;> exact hMask

/-- SRA is RR with bit 7 itself as the bit that enters. -/
theorem sra8_eq_rr8 (v : Byte) : sra8 v = rr8 (v.getLsbD 7) v := by
  rw [sra8, and_bit7_eq_bitByte, rr8]

theorem sra8_toNat (v : Byte) : (sra8 v).1.toNat = v.toNat / 2 + v.toNat / 128 * 128 := by
  have hByte := v.isLt
  rw [sra8_eq_rr8, rr8_toNat, BitVec.getLsbD, Nat.toNat_testBit]
  omega

/-- The nibbles do not overlap, so putting them together is a sum. -/
theorem swap8_toNat (v : Byte) : (swap8 v).1.toNat = v.toNat % 16 * 16 + v.toNat / 16 := by
  have hByte := v.isLt
  have hDisjoint : v <<< 4 &&& v >>> 4 = 0 := byte_ext fun i hi => by
    by_cases hLow : i < 4
    · simp [hLow]
    · simp [BitVec.getLsbD_of_ge v (4 + i) (by omega)]
  rw [swap8, ← BitVec.add_eq_or_of_and_eq_zero _ _ hDisjoint, BitVec.toNat_add_of_and_eq_zero hDisjoint,
    BitVec.toNat_shiftLeft, Nat.shiftLeft_eq, BitVec.toNat_ushiftRight, Nat.shiftRight_eq_div_pow]
  omega

/-! ## Rotates, shifts and SWAP of an operand (R290 to R298) -/

/-- What a rotate, shift or SWAP of `r` does when its result, as a number, is `n`: zero is decided on the result. -/
theorem rotateR8_effect_number (s : State) {op : Byte → Byte × Bool} {r : R8} {n : Nat}
    (hResult : (op (s.r8get r)).1.toNat = n) :
    ((s.rotateR8 op r).r8get r).toNat = n ∧
    FlagsBecome { z := decide ((s.rotateR8 op r).r8get r = 0), n := false, h := false, c := (op (s.r8get r)).2 } s
      (s.rotateR8 op r) ∧
    Frame (.f :: r.alias8) (r.stored s) s (s.rotateR8 op r) ∧ (s.rotateR8 op r).sp = s.sp ∧
    (s.rotateR8 op r).pc = s.pc := by
  obtain ⟨hOperand, hEffect⟩ := rotateR8_effect s op r
  rw [← hOperand] at hEffect
  exact ⟨hOperand ▸ hResult, hEffect.parts⟩

/-- Settles O54: the four are one rotate of the operand, zero decided on its result. -/
theorem extensionRotates : Obligations.ExtensionRotates := fun _ s =>
  ⟨⟨encodedAs_of_wf rfl rfl, _, rfl, rotateR8_effect_number s (rlc8_toNat _)⟩,
    ⟨encodedAs_of_wf rfl rfl, _, rfl, rotateR8_effect_number s (rrc8_toNat _)⟩,
    ⟨encodedAs_of_wf rfl rfl, _, rfl, rotateR8_effect_number s (rl8_toNat s.fC _)⟩,
    ⟨encodedAs_of_wf rfl rfl, _, rfl, rotateR8_effect_number s (rr8_toNat s.fC _)⟩⟩

/-- Settles O55: the shifts and SWAP are the same operation of the operand as the rotates. -/
theorem extensionShiftsAndSwap : Obligations.ExtensionShiftsAndSwap := fun _ s =>
  ⟨⟨encodedAs_of_wf rfl rfl, _, rfl, rotateR8_effect_number s (toNat_shiftLeft_one _)⟩,
    ⟨encodedAs_of_wf rfl rfl, _, rfl, rotateR8_effect_number s (sra8_toNat _)⟩,
    ⟨encodedAs_of_wf rfl rfl, _, rfl, rotateR8_effect_number s (swap8_toNat _)⟩,
    ⟨encodedAs_of_wf rfl rfl, _, rfl, rotateR8_effect_number s (toNat_shiftRight_one _)⟩⟩

/-! ## BIT, RES, SET (R299 to R301) -/

/-- The zero flag of BIT, decided on the number. -/
theorem bitFlags_of_number (v : Byte) (b : Nat) (g : Flags) : bitFlags v b g =
    { z := decide (v.toNat / 2 ^ b % 2 = 0), n := false, h := true, c := g.c } := by
  rw [bitFlags, BitVec.getLsbD, Nat.testBit_eq_decide_div_mod_eq, ← decide_not,
    decide_eq_decide.mpr Nat.mod_two_ne_one]

/-- Settles O56: BIT writes the flags alone. -/
theorem testBit : Obligations.TestBit := fun b r s => by
  have hEffect := testBit_effect s b r
  rw [bitFlags_of_number] at hEffect
  exact ⟨encodedAs_of_wf rfl rfl, _, rfl, hEffect.parts⟩

/-- A byte whose only set bit is bit `i`. -/
theorem getLsbD_one_shiftLeft {i : Nat} (h : i < 8) (k : Nat) : ((1 : Byte) <<< i).getLsbD k = decide (k = i) := by
  have hBit : (1 : Byte) <<< i = BitVec.twoPow 8 i := rfl
  rw [hBit, BitVec.getLsbD_twoPow]
  simp [h, eq_comm]

/-- RES, bit by bit. -/
theorem getLsbD_clearBit (v : Byte) {i : Nat} (h : i < 8) (k : Nat) :
    (v &&& ~~~((1 : Byte) <<< i)).getLsbD k = if k = i then false else v.getLsbD k := by
  rw [BitVec.getLsbD_and, BitVec.getLsbD_not, getLsbD_one_shiftLeft h]
  by_cases hk : k = i
  · simp [hk]
  · by_cases hByte : k < 8
    · simp [hk, hByte]
    · simp [hk, BitVec.getLsbD_of_ge v k (not_lt.1 hByte)]

/-- SET, bit by bit. -/
theorem getLsbD_assertBit (v : Byte) {i : Nat} (h : i < 8) (k : Nat) :
    (v ||| ((1 : Byte) <<< i)).getLsbD k = if k = i then true else v.getLsbD k := by
  rw [BitVec.getLsbD_or, getLsbD_one_shiftLeft h]
  by_cases hk : k = i <;> simp [hk]

/-- What writing back a byte does to an operand, when its bits are `bits`. -/
theorem r8set_effect_bits (s : State) (r : R8) {v : Byte} {bits : Nat → Bool} (h : ∀ k, v.getLsbD k = bits k) :
    (∀ k, ((s.r8set r v).r8get r).getLsbD k = bits k) ∧
    Frame r.alias8 (r.stored s) s (s.r8set r v) ∧ (s.r8set r v).sp = s.sp ∧ (s.r8set r v).pc = s.pc := by
  obtain ⟨hOperand, hRest⟩ := r8set_effect s r v
  exact ⟨fun k => by rw [hOperand, h k], hRest⟩

/-- Settles O57: each writes back one byte, one bit of it forced. -/
theorem clearAndSetBit : Obligations.ClearAndSetBit := fun b r s =>
  ⟨⟨encodedAs_of_wf rfl rfl, _, rfl, r8set_effect_bits s r (getLsbD_clearBit _ b.isLt)⟩,
    ⟨encodedAs_of_wf rfl rfl, _, rfl, r8set_effect_bits s r (getLsbD_assertBit _ b.isLt)⟩⟩

end Sys2Proof.Machine
end

section
/-! The outcomes of a step (60_exceptions.md R321 to R327, 30_encoding.md R93, R94) and the host's Reset
(70_reset_and_hazards.md R361). -/

namespace Sys2Proof.Machine

/-! ## What a step can answer -/

/-- An instruction of one byte that the fetch gives is encoded as the byte at `pc`. -/
theorem State.memRead_pc_of_encode_instrAt {s : State} {op : Byte} (h : encode (s.instrAt s.pc) = [op]) :
    s.memRead s.pc = op := by
  have hBytes := (wf_and_eq_encode_append_of_decode s.decode_at_pc).2
  rw [h, State.readRange_three] at hBytes
  exact (List.cons.inj hBytes).1

/-- A step answers a next state, or it is that of a running core at an invalid slot and raises the exception. -/
theorem step_next_or_fault (s : State) : (∃ t, step s = .next t) ∨
    s.run = .running ∧ s.memRead s.pc ∈ invalidSlots ∧ step s = .fault (.invalidOpcode (s.memRead s.pc) s.pc) := by
  by_cases hRun : s.run = .running
  · obtain ⟨t, ht⟩ | ⟨op, hSlot, hEncode, -⟩ := exec_next_or_invalidOpcode (s.instrAt s.pc) s.pastInstr
    · exact .inl ⟨t, (step_of_running hRun).trans ht⟩
    · rw [← State.memRead_pc_of_encode_instrAt hEncode] at hSlot
      exact .inr ⟨hRun, hSlot, step_of_mem_invalidSlots hRun hSlot⟩
  · exact .inl ⟨s, step_of_ended hRun⟩

/-- Settles O8: the outcome is a next state, or the one fault of the slot at `pc`. -/
theorem stepFaultsOnlyOnInvalidSlots : Obligations.StepFaultsOnlyOnInvalidSlots := by
  intro s
  obtain ⟨t, hNext⟩ | ⟨hRun, hSlot, hFault⟩ := step_next_or_fault s
  · simp [hNext]
  · rw [hFault]
    exact ⟨fun f hf => ⟨hRun, hSlot, (Host.Outcome.fault.inj hf).symm⟩, fun r hr => by cases hr⟩

/-- Settles O9: a running core that does not fault answers a next state. -/
theorem everyDefinedOpcodeRuns : Obligations.EveryDefinedOpcodeRuns := fun s _ hDefined =>
  (step_next_or_fault s).resolve_right fun ⟨_, hSlot, _⟩ => hDefined hSlot

/-! ## Reset (R361) -/

/-- Settles O59: only the six registers are written. -/
theorem hostResetClearsTheRegistersOnly : Obligations.HostResetClearsTheRegistersOnly := fun s =>
  ⟨fun r => by cases r <;> rfl, s.hostReset_memRead, s.hostReset_ime, s.hostReset_run⟩

end Sys2Proof.Machine
end
